-- ==== Sys2Proof/Word.lean ====
section
/-! DEFINITION. The byte, the index of a PKT byte and the bytes-remaining counter (00_scope.md R8, R13,
R15). -/

namespace Sys2Proof

/-- `Byte` of R15: an unsigned 8-bit value; every field extraction from it is unsigned (R13). -/
abbrev Byte := BitVec 8

/-- A packet index or length: 8 bits wide, values 0..128 (00_scope.md R8, 10_state.md R21, R24, R25). -/
abbrev Cursor := Fin 129

/-- The cursor at `n`; no cursor passes 128 (R24: "Neither wraps"). -/
def cursor (n : Nat) : Cursor := ⟨min n 128, by omega⟩

/-- A count of payload bytes of a code: 3 bits wide, values 0..6, "the payload of a 7-byte C1 command"
(00_scope.md R8, 10_state.md R27, R29). -/
abbrev PayloadCount := Fin 7

/-- The count `n`; no count passes 6 (43_decoder_c0.md R241). -/
def payloadCount (n : Nat) : PayloadCount := ⟨min n 6, by omega⟩

end Sys2Proof
end

