-- ==== Sys2Proof/Config.lean ====
section
/-! DEFINITION. What an implementation fixes (00_scope.md R7) and the free values.

The values D0 fixes are plain constants. The parameters the spec gives a default or leaves OPEN form
the record `Params`; the machine carries one in its state and no instruction writes it (log 2), so a
statement for every state is a statement for every value of every parameter. The default values stand
in Sys2Proof/Machine/Tables.lean. -/

namespace Sys2Proof

/-- `Glyph` of R15. -/
inductive Glyph where
  /-- a Unicode code point -/
  | codePoint (n : Nat)
  /-- `TSP`, the transparent space -/
  | tsp
  /-- `NBTSP`, the non-breaking transparent space -/
  | nbtsp
  /-- `CC_ICON`, the closed-caption logo -/
  | ccIcon
  /-- `UNKNOWN_GLYPH` -/
  | unknownGlyph
deriving DecidableEq, Repr

/-- `Style` of R15. -/
inductive Style where
  | unset | popOn | rollUp | ticker
deriving DecidableEq, Repr

/-- The four 2-bit construct type tags (R7, 30_encoding.md R91). -/
structure Tags where
  field1 : BitVec 2
  field2 : BitVec 2
  pktStart : BitVec 2
  pktData : BitVec 2
deriving DecidableEq, Repr

/-- The four tag values differ, so that every header byte selects exactly one operation (R92). -/
def Tags.distinct (t : Tags) : Bool :=
  t.field1 != t.field2 && t.field1 != t.pktStart && t.field1 != t.pktData &&
  t.field2 != t.pktStart && t.field2 != t.pktData && t.pktStart != t.pktData

/-- The tables `C1_LEN` and `C1_RESERVED` (R7, 30_encoding.md R104). -/
structure C1Table where
  /-- `C1_LEN[0..31]`: entry `k` is the total length of the command of code 0x80 + k -/
  len : List Nat
  /-- `C1_RESERVED` -/
  reserved : List Byte
deriving DecidableEq, Repr

/-- `C1_LEN[b - 0x80]` (R104). A table shorter than its domain is inadmissible. -/
def C1Table.lenOf (c : C1Table) (b : Byte) : Nat := c.len.getD (b.toNat - 0x80) 1

/-- `b ∈ C1_RESERVED`. -/
def C1Table.isReserved (c : C1Table) (b : Byte) : Bool := c.reserved.contains b

/-- The length of the format that the rule of each C1 code names, from 0x80 on (R104 to R112). -/
def c1FormatLen : List Nat :=
  [1, 1, 1, 1, 1, 1, 1, 1, 2, 2, 2, 2, 2, 2, 1, 1,
   3, 4, 3, 1, 1, 1, 1, 5, 7, 7, 7, 7, 7, 7, 7, 7]

/-- What the spec asks of the two tables: an entry for each of the 32 codes, "fixed total length 1–7 bytes"
(45_c1_commands.md R270); reserved codes are C1 codes; "for every non-reserved code, `C1_LEN` is exactly the
length of the format the code's rule names" (R273); and the four codes whose rule is R296 are reserved, since
the pre-scan counts a unit for every other C1 code (42_service_block_parser.md R197) and R296 emits none
(DEDUCED, log 26). -/
def C1Table.admissible (c : C1Table) : Bool :=
  decide (c.len.length = 32) && c.len.all (fun n => decide (1 ≤ n ∧ n ≤ 7)) &&
  c.reserved.all (fun b => decide (0x80 ≤ b.toNat ∧ b.toNat ≤ 0x9F)) &&
  c.isReserved 0x93 && c.isReserved 0x94 && c.isReserved 0x95 && c.isReserved 0x96 &&
  (List.range 32).all fun k =>
    c.isReserved (BitVec.ofNat 8 (0x80 + k)) || c.len.getD k 0 == c1FormatLen.getD k 0

/-- The parameters of R7 that are not fixed. `POOL_SLOTS` is the length of the pool (log 3). -/
structure Params where
  /-- `MAX_SINKS`, OPEN -/
  maxSinks : Nat
  /-- `P16_LOG_LIMIT` -/
  p16LogLimit : Nat
  /-- `CNT_W` -/
  cntW : Nat
  /-- `TAG_FIELD1`, `TAG_FIELD2`, `TAG_PKT_START`, `TAG_PKT_DATA` -/
  tags : Tags
  /-- `C0_KNOWN` -/
  c0Known : List Byte
  /-- `C1_LEN` and `C1_RESERVED` -/
  c1 : C1Table
  /-- `G0_TABLE`: entry `k` is the glyph of code 0x20 + k -/
  g0Table : List Glyph
  /-- `G1_TABLE`: entry `k` is the glyph of code 0xA0 + k -/
  g1Table : List Glyph
  /-- `G2_TABLE`, a partial map -/
  g2Table : List (Byte × Glyph)
  /-- `G3_TABLE`, a partial map -/
  g3Table : List (Byte × Glyph)
  /-- `STYLE_CLASS[0..7]` -/
  styleClass : List Style
deriving DecidableEq, Repr

/-- `LEN_MISMATCH_LOG_LIMIT`, fixed (R7, 60_exceptions.md R353). -/
def Config.lenMismatchLogLimit : Nat := 5

/-- What the spec asks of the parameters: `MAX_SINKS` at least 1 (R7), four different tags (R92), C0
codes of one byte (R100), C1 tables that agree with the rules (R273), the domains of the ROM tables
(20_memory.md R60), one entry in `G3_TABLE` (46_extended_codes.md R322). And a `CNT_W` for which "a saturated
counter is above every limit" (60_exceptions.md R351; that this asks something of `CNT_W` is DEDUCED, log 22). -/
def Params.admissible (p : Params) : Bool :=
  decide (1 ≤ p.maxSinks) && p.tags.distinct && p.c0Known.all (fun b => decide (b.toNat < 0x10)) &&
  p.c1.admissible &&
  decide (p.g0Table.length = 96) && decide (p.g1Table.length = 96) &&
  p.g2Table.all (fun e => decide (0x20 ≤ e.1.toNat ∧ e.1.toNat < 0x80)) &&
  decide (p.g3Table.length = 1) && p.g3Table.all (fun e => decide (0xA0 ≤ e.1.toNat)) &&
  decide (p.styleClass.length = 8) &&
  decide (Config.lenMismatchLogLimit < 2 ^ p.cntW - 1) && decide (p.p16LogLimit < 2 ^ p.cntW - 1)

namespace Config

/-- `MAX_PKT`, fixed (R7). -/
def maxPkt : Nat := 128
/-- `MAX_BLOCK`, fixed (R7). -/
def maxBlock : Nat := 31
/-- `N_SVC`, fixed (R7). -/
def nSvc : Nat := 63

/-- FREE VALUE (log 8): what a sink answers to the `n`-th call for which the script `replies` of the
state has no entry. R10: "not determined by any state of DTVCC-FD"; U18: "any value". -/
opaque sinkAnswer : Nat → Bool

/-- FREE VALUE (log 8): whether the sink releases the buffer inside the `accept` of that call
(40_buffer_fanout.md R135: "at a moment of its own choosing"). -/
opaque sinkReleases : Nat → Bool

/-- FREE VALUE (log 12): what element `n` of an input buffer reads as where a misbehaving producer has
stored a decoded unit in a buffer of type RAW_CC, whose elements are bytes (20_memory.md R63). -/
opaque unitAsByte : Nat → BitVec 8

/-- FREE VALUE (log 25): what element `n` of the input buffer reads as, after `calls` calls to sinks, where
its slot holds no element `n` (R61 names none there; U3: "any value"). -/
opaque inbufBeyond : (calls n : Nat) → BitVec 8

end Config

end Sys2Proof
end

