-- ==== Sys2Proof/Syntax.lean ====
section
/-! DEFINITION. The instructions, one constructor per mnemonic of opcode_table.json, and the values they
carry (00_scope.md R15, 10_state.md R40, R41, 20_memory.md R62, R63). -/

namespace Sys2Proof

/-- A buffer type tag (20_memory.md R63). -/
inductive BufType where
  /-- `RAW_CC`: elements are bytes -/
  | rawCc
  /-- `DTVCC_UNITS`: elements are DecodedUnits -/
  | dtvccUnits
deriving DecidableEq, Repr

/-- `Timestamp` of R15: opaque, one of two forms or `NONE`; copied and never inspected (10_state.md R23).
DESIGN CHOICE (log 24): the spec gives the fields no layout and no width (91_not_in_source.md N11); unbounded
naturals, and a frame rate as a fraction, are the model's. -/
inductive Timestamp where
  | none
  | frame (number rateNumerator rateDenominator : Nat) (dropFrame : Bool)
  | clock (hours minutes seconds milliseconds : Nat)
deriving DecidableEq, Repr

/-- `Handle` of R15 and R62: a pool slot index, or `NULL` as `none`. -/
abbrev Handle := Option Nat

/-- The payload of SetPenAttributes (R41, 30_encoding.md R108). -/
structure PenAttributes where
  penSize : BitVec 2
  offset : BitVec 2
  textTag : BitVec 4
  fontTag : BitVec 3
  edgeType : BitVec 3
  underline : BitVec 1
  italic : BitVec 1
deriving DecidableEq, Repr

/-- The payload of SetPenColor (R41, R109). -/
structure PenColor where
  fgOpacity : BitVec 2
  fgR : BitVec 2
  fgG : BitVec 2
  fgB : BitVec 2
  bgOpacity : BitVec 2
  bgR : BitVec 2
  bgG : BitVec 2
  bgB : BitVec 2
  edgeR : BitVec 2
  edgeG : BitVec 2
  edgeB : BitVec 2
deriving DecidableEq, Repr

/-- The payload of SetPenLocation (R41, R110). -/
structure PenLocation where
  row : BitVec 4
  column : BitVec 6
deriving DecidableEq, Repr

/-- The payload of SetWindowAttributes (R41, R111). -/
structure WindowAttributes where
  fillOpacity : BitVec 2
  fillR : BitVec 2
  fillG : BitVec 2
  fillB : BitVec 2
  borderType : BitVec 3
  borderR : BitVec 2
  borderG : BitVec 2
  borderB : BitVec 2
  wordWrap : BitVec 1
  printDirection : BitVec 2
  scrollDirection : BitVec 2
  justify : BitVec 2
  effectSpeed : BitVec 4
  effectDirection : BitVec 2
  displayEffect : BitVec 2
deriving DecidableEq, Repr

/-- The payload of DefineWindow (R41, R112). -/
structure WindowDefinition where
  windowId : BitVec 3
  visible : BitVec 1
  rowLock : BitVec 1
  columnLock : BitVec 1
  priority : BitVec 3
  relativePositioning : BitVec 1
  anchorVertical : BitVec 7
  anchorHorizontal : BitVec 8
  anchorPoint : BitVec 4
  rowCount : BitVec 4
  columnCount : BitVec 6
  windowStyle : BitVec 3
  penStyle : BitVec 3
deriving DecidableEq, Repr

/-- The C1 payload variants (R41). -/
inductive Payload where
  | none
  | windowBitmap (bm : BitVec 8)
  | delay (tenths : BitVec 8)
  | penAttributes (p : PenAttributes)
  | penColor (p : PenColor)
  | penLocation (p : PenLocation)
  | windowAttributes (p : WindowAttributes)
  | windowDefinition (p : WindowDefinition)
deriving DecidableEq, Repr

/-- The body of a DecodedUnit: "a sum type with one variant per command/character kind" (R40). -/
inductive Body where
  | c0 (code : Byte)
  | c0P16 (b1 b2 : Byte)
  | c1 (code : Byte) (payload : Payload)
  | c2 (code : Byte) (extra : Nat)
  | c3 (code : Byte) (extra : Nat)
  | g0 (code : Byte) (glyph : Glyph)
  | g1 (code : Byte) (glyph : Glyph)
  | g2 (code : Byte) (glyph : Glyph)
  | g3 (code : Byte) (glyph : Glyph)
deriving DecidableEq, Repr

/-- `DecodedUnit` (R40): the service number of its block, the sequence number of its packet, the body. -/
structure DecodedUnit where
  svc : BitVec 6
  seq : BitVec 2
  body : Body
deriving DecidableEq, Repr

/-- An element of a buffer: a byte in a `RAW_CC` buffer, a DecodedUnit in a `DTVCC_UNITS` buffer
(10_state.md R37, 20_memory.md R63). -/
inductive Element where
  | byte (b : Byte)
  | unit (u : DecodedUnit)
deriving DecidableEq, Repr

/-- A reserved C1 code with the payload bytes that `C1_LEN` gives it, by default none (45_c1_commands.md R296,
log 26). -/
structure ReservedCode where
  code : Byte
  payload : List Byte
deriving DecidableEq, Repr

/-- The instructions in the sense of 00_scope.md R3. The docstring of a constructor gives its row of
opcode_table.json and the rule of its meaning. -/
inductive Instr where
  -- level A: the 3-byte construct (30_encoding.md R91, R92)
  /-- `PS`, R161 -/
  | ps (b0 b1 : Byte)
  /-- `PS!`, R161 -/
  | psInvalid (b0 b1 : Byte)
  /-- `PD`, R162 -/
  | pd (b0 b1 : Byte)
  /-- `PD!`, R164 -/
  | pdInvalid (b0 b1 : Byte)
  /-- `F1`, valid or not, R163 -/
  | f1 (valid : Bool) (b0 b1 : Byte)
  /-- `F2`, valid or not, R163 -/
  | f2 (valid : Bool) (b0 b1 : Byte)
  -- level B: packet header and service-block headers (R93 to R97)
  /-- `PKTHDR`, R93, R94, carried out as in R166 -/
  | pktHdr (seq : BitVec 2) (code : BitVec 6)
  /-- `SB_NULL`, R192; the service number is whatever the top bits hold -/
  | sbNull (svc : BitVec 3)
  /-- `SB_SVC0`, R195 -/
  | sbSvc0 (size : BitVec 5)
  /-- `SB_STD`, R193 -/
  | sbStd (svc : BitVec 3) (size : BitVec 5)
  /-- `SB_EXT`, R194 -/
  | sbExt (size : BitVec 5) (ext : BitVec 6)
  -- level C: C0
  /-- `NUL`, R230 -/
  | nul
  /-- `C0_UNK1`, R236 -/
  | c0Unk1 (code : Byte)
  /-- `ETX`, R231 -/
  | etx
  /-- `BS`, R232 -/
  | bs
  /-- `FF`, R233 -/
  | ff
  /-- `CR`, R234 -/
  | cr
  /-- `HCR`, R235 -/
  | hcr
  -- level C: after EXT1
  /-- `EXT1_C2_0`, R312 -/
  | ext1C20 (e : Byte)
  /-- `EXT1_C2_1`, R313 -/
  | ext1C21 (e x1 : Byte)
  /-- `EXT1_C2_2`, R314 -/
  | ext1C22 (e x1 x2 : Byte)
  /-- `EXT1_C2_3`, R315 -/
  | ext1C23 (e x1 x2 x3 : Byte)
  /-- `EXT1_G2`, R316 -/
  | ext1G2 (e : Byte)
  /-- `EXT1_C3_4`, R318 -/
  | ext1C34 (e x1 x2 x3 x4 : Byte)
  /-- `EXT1_C3_5`, R319 -/
  | ext1C35 (e x1 x2 x3 x4 x5 : Byte)
  /-- `EXT1_C3_VAR`, R320 -/
  | ext1C3Var (e : Byte)
  /-- `EXT1_G3`, R321 -/
  | ext1G3 (e : Byte)
  -- level C: multi-byte C0
  /-- `C0_RSV2`, R238 -/
  | c0Rsv2 (code p1 : Byte)
  /-- `P16`, R239 -/
  | p16 (p1 p2 : Byte)
  /-- `C0_RSV3`, R240 -/
  | c0Rsv3 (code p1 p2 : Byte)
  -- level C: characters
  /-- `G0`, R260 -/
  | g0 (code : Byte)
  -- level C: C1
  /-- `CW0`, R274 -/
  | cw0
  /-- `CW1`, R274 -/
  | cw1
  /-- `CW2`, R274 -/
  | cw2
  /-- `CW3`, R274 -/
  | cw3
  /-- `CW4`, R274 -/
  | cw4
  /-- `CW5`, R274 -/
  | cw5
  /-- `CW6`, R274 -/
  | cw6
  /-- `CW7`, R274 -/
  | cw7
  /-- `CLW`, R275 -/
  | clw (p1 : Byte)
  /-- `DSW`, R276 -/
  | dsw (p1 : Byte)
  /-- `HDW`, R277 -/
  | hdw (p1 : Byte)
  /-- `TGW`, R278 -/
  | tgw (p1 : Byte)
  /-- `DLW`, R279 -/
  | dlw (p1 : Byte)
  /-- `DLY`, R280 -/
  | dly (p1 : Byte)
  /-- `DLC`, R281 -/
  | dlc
  /-- `RST`, R282 -/
  | rst
  /-- `SPA`, R283 -/
  | spa (p1 p2 : Byte)
  /-- `SPC`, R284 -/
  | spc (p1 p2 p3 : Byte)
  /-- `SPL`, R285 -/
  | spl (p1 p2 : Byte)
  /-- `C1_RSV`, R296 -/
  | c1Rsv (r : ReservedCode)
  /-- `SWA`, R286 -/
  | swa (p1 p2 p3 p4 : Byte)
  /-- `DF0`, R287 -/
  | df0 (p1 p2 p3 p4 p5 p6 : Byte)
  /-- `DF1`, R287 -/
  | df1 (p1 p2 p3 p4 p5 p6 : Byte)
  /-- `DF2`, R287 -/
  | df2 (p1 p2 p3 p4 p5 p6 : Byte)
  /-- `DF3`, R287 -/
  | df3 (p1 p2 p3 p4 p5 p6 : Byte)
  /-- `DF4`, R287 -/
  | df4 (p1 p2 p3 p4 p5 p6 : Byte)
  /-- `DF5`, R287 -/
  | df5 (p1 p2 p3 p4 p5 p6 : Byte)
  /-- `DF6`, R287 -/
  | df6 (p1 p2 p3 p4 p5 p6 : Byte)
  /-- `DF7`, R287 -/
  | df7 (p1 p2 p3 p4 p5 p6 : Byte)
  /-- `G1`, R262 -/
  | g1 (code : Byte)
  -- level S: operations of the channels, without a byte encoding (R118)
  /-- `Allocate`, R131 -/
  | allocate (type : BufType) (capacity : Nat)
  /-- `Append`, R132 -/
  | append (h : Handle) (v : Element)
  /-- the second operation of the row `Append`, `SetTimestamp`, R132 -/
  | setTimestamp (h : Handle) (t : Timestamp)
  /-- `AddReader`, R133 -/
  | addReader (h : Handle)
  /-- `Release`, R134 -/
  | release (h : Handle)
  /-- `Dispatch`, R136; the registry is the machine's own -/
  | dispatch (h : Handle)
  /-- `Shutdown`, R137 -/
  | shutdown
  /-- `RegisterSink`, R138: the sink's identity and the type it declares -/
  | registerSink (sink : Nat) (consumes : BufType)
  /-- `Accept`, R160 -/
  | accept (inbuf : Handle)
  /-- `Terminate`, R172 -/
  | terminate
  /-- `Reset`, R400; `pool` says whether the pool line of R400 is executed (R401) -/
  | reset (pool : Bool)
  /-- `Flush`, internal, R166 -/
  | flush
  /-- `ParseBlocks`, internal, R190 -/
  | parseBlocks
  /-- `ProcessBlock`, internal, R198 -/
  | processBlock
deriving DecidableEq, Repr

/-- The four nested levels of R3. -/
inductive Level where
  /-- level A: constructs -/
  | construct
  /-- level B: the packet header byte -/
  | packetHeader
  /-- level B: service-block headers -/
  | blockHeader
  /-- level C: codes inside a service block -/
  | code
  /-- level S: operations, without a byte encoding -/
  | operation
deriving DecidableEq, Repr

end Sys2Proof
end

