-- ==== Sys2Proof/Machine/Tables.lean ====
section
/-! DEFINITION. The ROM tables: the length tables, and the defaults of the parameters (30_encoding.md
R104, R114, R115, 44_chars_g0_g1.md R261, R263, 46_extended_codes.md R317, R322, 47_style_classifier.md
R341, 00_scope.md R7). -/

namespace Sys2Proof.Machine

/-- The defaults of `C1_LEN`, the length of each code's format, and of `C1_RESERVED` (R7, R104). -/
def defaultC1 : C1Table := { len := c1FormatLen, reserved := [0x93, 0x94, 0x95, 0x96] }

/-- `C2_EXTRA` (R114): 0, 1, 2, 3 extra bytes in the four sub-ranges of 0x00 to 0x1F. -/
def c2Extra (e : Byte) : Nat :=
  if e.toNat ≤ 0x07 then 0 else if e.toNat ≤ 0x0F then 1 else if e.toNat ≤ 0x17 then 2 else 3

/-- `C3_EXTRA` (R115): 4 for 0x80 to 0x87, 5 for 0x88 to 0x8F. -/
def c3Extra (e : Byte) : Nat := if e.toNat ≤ 0x87 then 4 else 5

/-- `TotalLen(b)` for `b ≠ 0x10`, under the C1 tables `c` (R98, R99). -/
def totalLen (c : C1Table) (b : Byte) : Nat :=
  if b.toNat ≤ 0x0F then 1
  else if b.toNat ≤ 0x17 then 2
  else if b.toNat ≤ 0x1F then 3
  else if b.toNat ≤ 0x7F then 1
  else if b.toNat ≤ 0x9F then c.lenOf b
  else 1

/-- `TotalLen(0x10, e)` for `e` outside 0x90 to 0x9F (R99). -/
def totalLenExtended (e : Byte) : Nat :=
  if e.toNat ≤ 0x1F then 2 + c2Extra e
  else if e.toNat ≤ 0x7F then 2
  else if e.toNat ≤ 0x8F then 2 + c3Extra e
  else 2

/-- The default of `TAG_*` (R7). -/
def defaultTags : Tags := { field1 := 0, field2 := 1, pktStart := 2, pktData := 3 }

/-- The default of `C0_KNOWN` (R7, R100). -/
def defaultC0Known : List Byte := [0x00, 0x03, 0x08, 0x0C, 0x0D, 0x0E]

/-- The default of `G0_TABLE` (R261): ASCII, with the musical note at 0x7F. -/
def defaultG0 : List Glyph :=
  ((List.range 95).map fun k => Glyph.codePoint (0x20 + k)) ++ [Glyph.codePoint 0x266A]

/-- The default of `G1_TABLE` (R263): ISO 8859-1. -/
def defaultG1 : List Glyph := (List.range 96).map fun k => Glyph.codePoint (0xA0 + k)

/-- The default of `G2_TABLE` (R317). -/
def defaultG2 : List (Byte × Glyph) :=
  [(0x20, .tsp), (0x21, .nbtsp), (0x25, .codePoint 0x2026), (0x2A, .codePoint 0x0160),
   (0x2C, .codePoint 0x0152), (0x30, .codePoint 0x2588), (0x31, .codePoint 0x2018),
   (0x32, .codePoint 0x2019), (0x33, .codePoint 0x201C), (0x34, .codePoint 0x201D),
   (0x35, .codePoint 0x2022), (0x39, .codePoint 0x2122), (0x3A, .codePoint 0x0161),
   (0x3C, .codePoint 0x0153), (0x3D, .codePoint 0x2120), (0x3F, .codePoint 0x0178),
   (0x76, .codePoint 0x215B), (0x77, .codePoint 0x215C), (0x78, .codePoint 0x215D),
   (0x79, .codePoint 0x215E), (0x7A, .codePoint 0x2502), (0x7B, .codePoint 0x2510),
   (0x7C, .codePoint 0x2514), (0x7D, .codePoint 0x2500), (0x7E, .codePoint 0x2518),
   (0x7F, .codePoint 0x250C)]

/-- The default of `G3_TABLE` (R322). -/
def defaultG3 : List (Byte × Glyph) := [(0xA0, .ccIcon)]

/-- The default of `STYLE_CLASS` (R341). -/
def defaultStyleClass : List Style :=
  [.unset, .popOn, .popOn, .popOn, .rollUp, .rollUp, .rollUp, .ticker]

/-- The parameters at the defaults of R7; `MAX_SINKS` is OPEN and 4 here (log 3). -/
def defaultParams : Params :=
  { maxSinks := 4, p16LogLimit := 6, cntW := 32, tags := defaultTags, c0Known := defaultC0Known, c1 := defaultC1
    g0Table := defaultG0, g1Table := defaultG1, g2Table := defaultG2, g3Table := defaultG3
    styleClass := defaultStyleClass }

/-- `POOL_SLOTS` of the machine `State.reset` describes: OPEN, 8 here (log 3). -/
def defaultPoolSlots : Nat := 8

/-- A total ROM table: the entry of code `b`, the table beginning at code `base` (R261, R263). A table
shorter than its domain is inadmissible (`Params.admissible`). -/
def romGlyph (table : List Glyph) (base : Nat) (b : Byte) : Glyph :=
  table.getD (b.toNat - base) .unknownGlyph

/-- A partial ROM table: "unmapped codes decode to an explicit unknown glyph" (46_extended_codes.md
R316, R321). -/
def sparseGlyph (table : List (Byte × Glyph)) (e : Byte) : Glyph :=
  ((table.find? fun entry => entry.1 == e).map Prod.snd).getD .unknownGlyph

/-- `STYLE_CLASS[ws]` (47_style_classifier.md R341). -/
def styleClassOf (table : List Style) (ws : BitVec 3) : Style := table.getD ws.toNat .unset

end Sys2Proof.Machine
end

