-- ==== Sys2Proof/WellFormed.lean ====
section
/-! DEFINITION. Which terms of `Instr` stand for something the spec encodes: each field inside the code
range of its row of opcode_table.json (30_encoding.md R95 to R115). -/

namespace Sys2Proof

/-- `b` lies in `lo..hi`, the way the spec writes a code range. -/
def Byte.within (b : Byte) (lo hi : Nat) : Bool := decide (lo ≤ b.toNat) && decide (b.toNat ≤ hi)

/-- The code of a C1 command, of which a configuration may reserve any (00_scope.md R7, 45_c1_commands.md
R296). -/
def Instr.c1Code : Instr → Option Byte
  | .cw0 => some 0x80
  | .cw1 => some 0x81
  | .cw2 => some 0x82
  | .cw3 => some 0x83
  | .cw4 => some 0x84
  | .cw5 => some 0x85
  | .cw6 => some 0x86
  | .cw7 => some 0x87
  | .clw _ => some 0x88
  | .dsw _ => some 0x89
  | .hdw _ => some 0x8A
  | .tgw _ => some 0x8B
  | .dlw _ => some 0x8C
  | .dly _ => some 0x8D
  | .dlc => some 0x8E
  | .rst => some 0x8F
  | .spa _ _ => some 0x90
  | .spc _ _ _ => some 0x91
  | .spl _ _ => some 0x92
  | .swa _ _ _ _ => some 0x97
  | .df0 _ _ _ _ _ _ => some 0x98
  | .df1 _ _ _ _ _ _ => some 0x99
  | .df2 _ _ _ _ _ _ => some 0x9A
  | .df3 _ _ _ _ _ _ => some 0x9B
  | .df4 _ _ _ _ _ _ => some 0x9C
  | .df5 _ _ _ _ _ _ => some 0x9D
  | .df6 _ _ _ _ _ _ => some 0x9E
  | .df7 _ _ _ _ _ _ => some 0x9F
  | _ => none

/-- The row ranges of opcode_table.json. An operand that the encoding gives every value (a payload byte, a
construct's payload) is unconstrained, and so are the operands of level S, which has no encoding (R118). -/
def Instr.inRange : Instr → Bool
  | .ps _ _ | .psInvalid _ _ | .pd _ _ | .pdInvalid _ _ | .f1 _ _ _ | .f2 _ _ _ => true
  | .pktHdr _ _ => true
  | .sbNull _ => true
  | .sbSvc0 size => size != 0
  | .sbStd svc size => svc != 0 && svc != 7 && size != 0
  | .sbExt size _ => size != 0
  | .c0Unk1 code =>
    Byte.within code 0x00 0x0F && code != 0x00 && code != 0x03 && code != 0x08 && code != 0x0C &&
      code != 0x0D && code != 0x0E
  | .nul | .etx | .bs | .ff | .cr | .hcr => true
  | .ext1C20 e => Byte.within e 0x00 0x07
  | .ext1C21 e _ => Byte.within e 0x08 0x0F
  | .ext1C22 e _ _ => Byte.within e 0x10 0x17
  | .ext1C23 e _ _ _ => Byte.within e 0x18 0x1F
  | .ext1G2 e => Byte.within e 0x20 0x7F
  | .ext1C34 e _ _ _ _ => Byte.within e 0x80 0x87
  | .ext1C35 e _ _ _ _ _ => Byte.within e 0x88 0x8F
  | .ext1C3Var e => Byte.within e 0x90 0x9F
  | .ext1G3 e => Byte.within e 0xA0 0xFF
  | .c0Rsv2 code _ => Byte.within code 0x11 0x17
  | .p16 _ _ => true
  | .c0Rsv3 code _ _ => Byte.within code 0x19 0x1F
  | .g0 code => Byte.within code 0x20 0x7F
  | .cw0 | .cw1 | .cw2 | .cw3 | .cw4 | .cw5 | .cw6 | .cw7 => true
  | .clw _ | .dsw _ | .hdw _ | .tgw _ | .dlw _ | .dly _ | .dlc | .rst => true
  | .spa _ _ | .spc _ _ _ | .spl _ _ => true
  | .c1Rsv r => Byte.within r.code 0x80 0x9F
  | .swa _ _ _ _ => true
  | .df0 _ _ _ _ _ _ | .df1 _ _ _ _ _ _ | .df2 _ _ _ _ _ _ | .df3 _ _ _ _ _ _
  | .df4 _ _ _ _ _ _ | .df5 _ _ _ _ _ _ | .df6 _ _ _ _ _ _ | .df7 _ _ _ _ _ _ => true
  | .g1 code => Byte.within code 0xA0 0xFF
  | .allocate _ _ | .append _ _ | .setTimestamp _ _ | .addReader _ | .release _ | .dispatch _
  | .shutdown | .registerSink _ _ | .accept _ | .terminate | .reset _ => true
  | .flush | .parseBlocks | .processBlock => true

/-- Well-formed under the C1 tables `c`: in range; a C1 command has a code that is not reserved; `C1_RSV` has
one that is, and the payload that `C1_LEN` gives it (45_c1_commands.md R272, R296). -/
def Instr.wf (c : C1Table) (i : Instr) : Bool :=
  i.inRange &&
  match i with
  | .c1Rsv r => c.isReserved r.code && decide (r.payload.length + 1 = c.lenOf r.code)
  | _ => i.c1Code.all fun code => !c.isReserved code

end Sys2Proof
end

