-- ==== Sys2Proof/Decode.lean ====
section
/-! DEFINITION. The decoder, level by level, and the encoder (30_encoding.md R90 to R118). The decoder is
total: every byte value selects exactly one row at each level (R92, R97, R98, R113), so the only ground
for rejecting is a byte that is missing. -/

namespace Sys2Proof

/-- Why the decoder reads no instruction. -/
inductive Reject where
  /-- there is no byte at the cursor -/
  | noBytes
  /-- the bytes end inside a construct (20_memory.md R68) -/
  | constructCut
  /-- the bytes end before the second byte of an extended service-block header (R96) -/
  | headerCut
  /-- the bytes end inside a code (43_decoder_c0.md R224) -/
  | codeCut
  /-- level S has no byte encoding (R118) -/
  | noEncoding
deriving DecidableEq, Repr

/-- An instruction and the bytes after it, or the reason there is none. -/
abbrev Decoded := Except Reject (Instr × List Byte)

/-! ### Level A -/

/-- The validity flag of a construct header: bit 2 (R91). -/
def hdrValid (hdr : Byte) : Bool := hdr.getLsbD 2

/-- The type tag of a construct header: bits 1:0; bits 7:3 are ignored (R91). -/
def hdrTag (hdr : Byte) : BitVec 2 := hdr.extractLsb' 0 2

/-- The selection of the level-A operation from `(tag, valid)` (R92). -/
def constructInstr (t : Tags) (hdr b0 b1 : Byte) : Instr :=
  if hdrTag hdr = t.pktStart then
    if hdrValid hdr then .ps b0 b1 else .psInvalid b0 b1
  else if hdrTag hdr = t.pktData then
    if hdrValid hdr then .pd b0 b1 else .pdInvalid b0 b1
  else if hdrTag hdr = t.field1 then .f1 (hdrValid hdr) b0 b1
  else .f2 (hdrValid hdr) b0 b1

/-- Level A: a 3-byte construct. -/
def decodeConstruct (t : Tags) : List Byte → Decoded
  | [] => .error .noBytes
  | hdr :: b0 :: b1 :: rest => .ok (constructInstr t hdr b0 b1, rest)
  | _ => .error .constructCut

/-! ### Level B -/

/-- Level B: the packet header byte, `sequence_number` 7:6 and `packet_size_code` 5:0 (R93). -/
def decodePacketHeader : List Byte → Decoded
  | [] => .error .noBytes
  | b :: rest => .ok (.pktHdr (b.extractLsb' 6 2) (b.extractLsb' 0 6), rest)

/-- The `service_number` of a service-block header: "top 3 bits" (R95). -/
def hdrService (h : Byte) : BitVec 3 := h.extractLsb' 5 3

/-- The `block_size` of a service-block header: "bottom 5 bits" (R95). -/
def hdrSize (h : Byte) : BitVec 5 := h.extractLsb' 0 5

/-- The real service number of an extended header: "the next byte's low 6 bits" (R96). -/
def extService (e : Byte) : BitVec 6 := e.extractLsb' 0 6

/-- Level B: a service-block header (R97). The header byte of `SB_NULL` is one byte long, though the
parser leaves its cursor on it (42_service_block_parser.md R192). -/
def decodeBlockHeader : List Byte → Decoded
  | [] => .error .noBytes
  | h :: rest =>
    if hdrSize h = 0 then .ok (.sbNull (hdrService h), rest)
    else if hdrService h = 7 then
      match rest with
      | e :: rest' => .ok (.sbExt (hdrSize h) (extService e), rest')
      | [] => .error .headerCut
    else if hdrService h = 0 then .ok (.sbSvc0 (hdrSize h), rest)
    else .ok (.sbStd (hdrService h) (hdrSize h), rest)

/-! ### Level C -/

/-- The single-byte C0 codes 0x00 to 0x0F (R100). -/
def c0SingleInstr (b : Byte) : Instr :=
  match b.toNat with
  | 0x00 => .nul
  | 0x03 => .etx
  | 0x08 => .bs
  | 0x0C => .ff
  | 0x0D => .cr
  | 0x0E => .hcr
  | _ => .c0Unk1 b

/-- The instruction that takes the next byte. -/
def take1 (k : Byte → Instr) : List Byte → Decoded
  | a :: r => .ok (k a, r)
  | _ => .error .codeCut

/-- The instruction that takes the next two bytes. -/
def take2 (k : Byte → Byte → Instr) : List Byte → Decoded
  | a :: b :: r => .ok (k a b, r)
  | _ => .error .codeCut

/-- The instruction that takes the next three bytes. -/
def take3 (k : Byte → Byte → Byte → Instr) : List Byte → Decoded
  | a :: b :: c :: r => .ok (k a b c, r)
  | _ => .error .codeCut

/-- The instruction that takes the next four bytes. -/
def take4 (k : Byte → Byte → Byte → Byte → Instr) : List Byte → Decoded
  | a :: b :: c :: d :: r => .ok (k a b c d, r)
  | _ => .error .codeCut

/-- The instruction that takes the next five bytes. -/
def take5 (k : Byte → Byte → Byte → Byte → Byte → Instr) : List Byte → Decoded
  | a :: b :: c :: d :: e :: r => .ok (k a b c d e, r)
  | _ => .error .codeCut

/-- The instruction that takes the next six bytes. -/
def take6 (k : Byte → Byte → Byte → Byte → Byte → Byte → Instr) : List Byte → Decoded
  | a :: b :: c :: d :: e :: f :: r => .ok (k a b c d e f, r)
  | _ => .error .codeCut

/-- The codes after EXT1 (R113 to R115), from the extended code byte on. -/
def decodeExtended : List Byte → Decoded
  | [] => .error .codeCut
  | e :: rest =>
    let n := e.toNat
    if n ≤ 0x07 then .ok (.ext1C20 e, rest)
    else if n ≤ 0x0F then take1 (.ext1C21 e) rest
    else if n ≤ 0x17 then take2 (.ext1C22 e) rest
    else if n ≤ 0x1F then take3 (.ext1C23 e) rest
    else if n ≤ 0x7F then .ok (.ext1G2 e, rest)
    else if n ≤ 0x87 then take4 (.ext1C34 e) rest
    else if n ≤ 0x8F then take5 (.ext1C35 e) rest
    else if n ≤ 0x9F then .ok (.ext1C3Var e, rest)
    else .ok (.ext1G3 e, rest)

/-- A reserved C1 code, with the `n` payload bytes that `C1_LEN` gives it (R296). -/
def takeReserved (b : Byte) (n : Nat) (rest : List Byte) : Decoded :=
  if n ≤ rest.length then .ok (.c1Rsv { code := b, payload := rest.take n }, rest.drop n) else .error .codeCut

/-- A C1 code that is not reserved (R104), from the byte after the code on. The last line is for the codes
0x93 to 0x96, which every admissible configuration reserves. -/
def decodeC1Command (b : Byte) (n : Nat) (rest : List Byte) : Decoded :=
  match b.toNat with
  | 0x80 => .ok (.cw0, rest)
  | 0x81 => .ok (.cw1, rest)
  | 0x82 => .ok (.cw2, rest)
  | 0x83 => .ok (.cw3, rest)
  | 0x84 => .ok (.cw4, rest)
  | 0x85 => .ok (.cw5, rest)
  | 0x86 => .ok (.cw6, rest)
  | 0x87 => .ok (.cw7, rest)
  | 0x88 => take1 .clw rest
  | 0x89 => take1 .dsw rest
  | 0x8A => take1 .hdw rest
  | 0x8B => take1 .tgw rest
  | 0x8C => take1 .dlw rest
  | 0x8D => take1 .dly rest
  | 0x8E => .ok (.dlc, rest)
  | 0x8F => .ok (.rst, rest)
  | 0x90 => take2 .spa rest
  | 0x91 => take3 .spc rest
  | 0x92 => take2 .spl rest
  | 0x97 => take4 .swa rest
  | 0x98 => take6 .df0 rest
  | 0x99 => take6 .df1 rest
  | 0x9A => take6 .df2 rest
  | 0x9B => take6 .df3 rest
  | 0x9C => take6 .df4 rest
  | 0x9D => take6 .df5 rest
  | 0x9E => take6 .df6 rest
  | 0x9F => take6 .df7 rest
  | _ => takeReserved b n rest

/-- The C1 codes 0x80 to 0x9F under the tables `c` (R104, R272), from the byte after the code on. -/
def decodeC1 (c : C1Table) (b : Byte) (rest : List Byte) : Decoded :=
  if c.isReserved b then takeReserved b (c.lenOf b - 1) rest else decodeC1Command b (c.lenOf b - 1) rest

/-- Level C: a code, read in mode DATA_WAIT (R98). -/
def decodeCode (c : C1Table) : List Byte → Decoded
  | [] => .error .noBytes
  | b :: rest =>
    let n := b.toNat
    if n ≤ 0x0F then .ok (c0SingleInstr b, rest)
    else if n ≤ 0x10 then decodeExtended rest
    else if n ≤ 0x17 then take1 (.c0Rsv2 b) rest
    else if n ≤ 0x18 then take2 .p16 rest
    else if n ≤ 0x1F then take2 (.c0Rsv3 b) rest
    else if n ≤ 0x7F then .ok (.g0 b, rest)
    else if n ≤ 0x9F then decodeC1 c b rest
    else .ok (.g1 b, rest)

/-- The decoder of a level, under the parameters `p`. -/
def decode (l : Level) (p : Params) (bytes : List Byte) : Decoded :=
  match l with
  | .construct => decodeConstruct p.tags bytes
  | .packetHeader => decodePacketHeader bytes
  | .blockHeader => decodeBlockHeader bytes
  | .code => decodeCode p.c1 bytes
  | .operation => .error .noEncoding

/-! ### The encoder -/

/-- The level of an instruction (R3, R90). -/
def Instr.level : Instr → Level
  | .ps _ _ | .psInvalid _ _ | .pd _ _ | .pdInvalid _ _ | .f1 _ _ _ | .f2 _ _ _ => .construct
  | .pktHdr _ _ => .packetHeader
  | .sbNull _ | .sbSvc0 _ | .sbStd _ _ | .sbExt _ _ => .blockHeader
  | .allocate _ _ | .append _ _ | .setTimestamp _ _ | .addReader _ | .release _ | .dispatch _
  | .shutdown | .registerSink _ _ | .accept _ | .terminate | .reset _
  | .flush | .parseBlocks | .processBlock => .operation
  | _ => .code

/-- A construct header; the unused bits 7:3 are written as 1 (00_scope.md R16). -/
def constructHdr (valid : Bool) (tag : BitVec 2) : Byte := (31#5 ++ BitVec.ofBool valid) ++ tag

/-- A service-block header (R95). -/
def blockHdr (svc : BitVec 3) (size : BitVec 5) : Byte := svc ++ size

/-- The bytes of an instruction, first byte first, from the encoding tables of 30_encoding.md; the ignored
bits 7:6 of an extended service-block header byte are written as 0 (log 17). Level S has none. -/
def encode (t : Tags) : Instr → List Byte
  | .ps b0 b1 => [constructHdr true t.pktStart, b0, b1]
  | .psInvalid b0 b1 => [constructHdr false t.pktStart, b0, b1]
  | .pd b0 b1 => [constructHdr true t.pktData, b0, b1]
  | .pdInvalid b0 b1 => [constructHdr false t.pktData, b0, b1]
  | .f1 v b0 b1 => [constructHdr v t.field1, b0, b1]
  | .f2 v b0 b1 => [constructHdr v t.field2, b0, b1]
  | .pktHdr seq code => [seq ++ code]
  | .sbNull svc => [blockHdr svc 0]
  | .sbSvc0 size => [blockHdr 0 size]
  | .sbStd svc size => [blockHdr svc size]
  | .sbExt size ext => [blockHdr 7 size, 0#2 ++ ext]
  | .nul => [0x00]
  | .c0Unk1 code => [code]
  | .etx => [0x03]
  | .bs => [0x08]
  | .ff => [0x0C]
  | .cr => [0x0D]
  | .hcr => [0x0E]
  | .ext1C20 e => [0x10, e]
  | .ext1C21 e x1 => [0x10, e, x1]
  | .ext1C22 e x1 x2 => [0x10, e, x1, x2]
  | .ext1C23 e x1 x2 x3 => [0x10, e, x1, x2, x3]
  | .ext1G2 e => [0x10, e]
  | .ext1C34 e x1 x2 x3 x4 => [0x10, e, x1, x2, x3, x4]
  | .ext1C35 e x1 x2 x3 x4 x5 => [0x10, e, x1, x2, x3, x4, x5]
  | .ext1C3Var e => [0x10, e]
  | .ext1G3 e => [0x10, e]
  | .c0Rsv2 code p1 => [code, p1]
  | .p16 p1 p2 => [0x18, p1, p2]
  | .c0Rsv3 code p1 p2 => [code, p1, p2]
  | .g0 code => [code]
  | .cw0 => [0x80]
  | .cw1 => [0x81]
  | .cw2 => [0x82]
  | .cw3 => [0x83]
  | .cw4 => [0x84]
  | .cw5 => [0x85]
  | .cw6 => [0x86]
  | .cw7 => [0x87]
  | .clw p1 => [0x88, p1]
  | .dsw p1 => [0x89, p1]
  | .hdw p1 => [0x8A, p1]
  | .tgw p1 => [0x8B, p1]
  | .dlw p1 => [0x8C, p1]
  | .dly p1 => [0x8D, p1]
  | .dlc => [0x8E]
  | .rst => [0x8F]
  | .spa p1 p2 => [0x90, p1, p2]
  | .spc p1 p2 p3 => [0x91, p1, p2, p3]
  | .spl p1 p2 => [0x92, p1, p2]
  | .c1Rsv r => r.code :: r.payload
  | .swa p1 p2 p3 p4 => [0x97, p1, p2, p3, p4]
  | .df0 p1 p2 p3 p4 p5 p6 => [0x98, p1, p2, p3, p4, p5, p6]
  | .df1 p1 p2 p3 p4 p5 p6 => [0x99, p1, p2, p3, p4, p5, p6]
  | .df2 p1 p2 p3 p4 p5 p6 => [0x9A, p1, p2, p3, p4, p5, p6]
  | .df3 p1 p2 p3 p4 p5 p6 => [0x9B, p1, p2, p3, p4, p5, p6]
  | .df4 p1 p2 p3 p4 p5 p6 => [0x9C, p1, p2, p3, p4, p5, p6]
  | .df5 p1 p2 p3 p4 p5 p6 => [0x9D, p1, p2, p3, p4, p5, p6]
  | .df6 p1 p2 p3 p4 p5 p6 => [0x9E, p1, p2, p3, p4, p5, p6]
  | .df7 p1 p2 p3 p4 p5 p6 => [0x9F, p1, p2, p3, p4, p5, p6]
  | .g1 code => [code]
  | .allocate _ _ | .append _ _ | .setTimestamp _ _ | .addReader _ | .release _ | .dispatch _
  | .shutdown | .registerSink _ _ | .accept _ | .terminate | .reset _
  | .flush | .parseBlocks | .processBlock => []

/-- The total length in bytes that opcode_table.json gives the row of an instruction (R98 to R115); of
`EXT1_C3_VAR`, whose length the code does not define, the two bytes that are read; of `C1_RSV`, the length
that `C1_LEN` gives the code; 0 at level S. -/
def Instr.tableLength : Instr → Nat
  | .ps _ _ | .psInvalid _ _ | .pd _ _ | .pdInvalid _ _ | .f1 _ _ _ | .f2 _ _ _ => 3
  | .pktHdr _ _ | .sbNull _ | .sbSvc0 _ | .sbStd _ _ => 1
  | .sbExt _ _ => 2
  | .nul | .c0Unk1 _ | .etx | .bs | .ff | .cr | .hcr => 1
  | .ext1C20 _ | .ext1G2 _ | .ext1C3Var _ | .ext1G3 _ => 2
  | .ext1C21 _ _ => 3
  | .ext1C22 _ _ _ => 4
  | .ext1C23 _ _ _ _ => 5
  | .ext1C34 _ _ _ _ _ => 6
  | .ext1C35 _ _ _ _ _ _ => 7
  | .c0Rsv2 _ _ => 2
  | .p16 _ _ | .c0Rsv3 _ _ _ => 3
  | .g0 _ | .g1 _ => 1
  | .c1Rsv r => 1 + r.payload.length
  | .cw0 | .cw1 | .cw2 | .cw3 | .cw4 | .cw5 | .cw6 | .cw7 | .dlc | .rst => 1
  | .clw _ | .dsw _ | .hdw _ | .tgw _ | .dlw _ | .dly _ => 2
  | .spa _ _ | .spl _ _ => 3
  | .spc _ _ _ => 4
  | .swa _ _ _ _ => 5
  | .df0 _ _ _ _ _ _ | .df1 _ _ _ _ _ _ | .df2 _ _ _ _ _ _ | .df3 _ _ _ _ _ _
  | .df4 _ _ _ _ _ _ | .df5 _ _ _ _ _ _ | .df6 _ _ _ _ _ _ | .df7 _ _ _ _ _ _ => 7
  | .allocate _ _ | .append _ _ | .setTimestamp _ _ | .addReader _ | .release _ | .dispatch _
  | .shutdown | .registerSink _ _ | .accept _ | .terminate | .reset _
  | .flush | .parseBlocks | .processBlock => 0

/-- The length in bytes of the longest code (0x88 to 0x8F after EXT1, and DefineWindow: 7). -/
def maxCodeLen : Nat := 7

/-- Byte `k` of a table word: bits 8k+7 .. 8k, the first byte in the lowest bits, so that `10 18` is the word
0x1810. DESIGN CHOICE (log 16): R117 gives strings of bytes, first byte leftmost, and numbers no bit of a word. -/
def wordByte (w k : Nat) : Byte := BitVec.ofNat 8 (w >>> (8 * k))

/-- The bytes of a word of `nbits` bits, with zeros above `nbits`, up to the longest code. -/
def wordBytes (nbits w : Nat) : List Byte :=
  (List.range maxCodeLen).map fun k => wordByte (w % 2 ^ nbits) k

/-- The instruction the decoder reads from a table word. The word carries no level, and the levels share
their byte values, so it is read as a level-C code, which is what PKT, "the program the parser and decoder
execute" (20_memory.md R75), holds inside a service block (log 16), under the default C1 tables, which are
those of opcode_table.json. -/
def decodeTableWord (nbits w : Nat) : Option Instr :=
  if nbits = 0 then none
  else match decodeCode Machine.defaultC1 (wordBytes nbits w) with
    | .ok (i, _) => some i
    | .error _ => none

end Sys2Proof
end

