-- ==== Sys2Proof/Machine/State.lean ====
section
/-! DEFINITION. Everything the machine holds (10_state.md R20 to R38), as plain data, and its value after
reset (10_state.md R44, 70_reset_and_hazards.md R400). -/

namespace Sys2Proof.Machine

/-! ### The reasons a step can stop -/

/-- Why the machine has no step. -/
inductive Fault where
  /-- Raised by every instruction but `Reset` while `fatal` is set: "no operation of DTVCC-FD has a step;
  only reset clears it" (10_state.md R34, 60_exceptions.md R370, U12: stuck). Safe. -/
  | halted
  /-- Raised by `step` when the machine is between operations and no agent asks for one: "a model simply has
  no further step to take" (U11). Safe. -/
  | idle
deriving DecidableEq, Repr

/-- Why an instruction is given no meaning in the state at hand. -/
inductive Refusal where
  /-- Raised by an arm of `exec` whose instruction has no meaning yet; there is none. Safe. -/
  | notModelled (mnemonic : String)
  /-- Raised by `Accept`, `Terminate` and `RegisterSink` while an operation is in progress:
  70_reset_and_hazards.md R413 forbids it, U8 says `refuse` (log 14). Safe. -/
  | reentrant
  /-- Raised by `step` when an agent asks for something that is no operation of a channel (30_encoding.md
  R118: "called only from other rules") (log 7). Safe. -/
  | notAChannelOperation
deriving DecidableEq, Repr

/-! ### The types of the fields -/

/-- The four modes of the decoder (R26). -/
inductive Mode where
  | dataWait | c0Pending | c1Pending | extendedPending
deriving DecidableEq, Repr

/-- `ext_phase` (R28). -/
inductive ExtPhase where
  | code | skip
deriving DecidableEq, Repr

/-- The fatal causes (60_exceptions.md R371), in the order of their codes 1 to 4. -/
inductive FatalCause where
  /-- 1, `F_CONTRACT` -/
  | contract
  /-- 2, `F_POOL_EXHAUSTED` -/
  | poolExhausted
  /-- 3, `F_TOO_MANY_SINKS` -/
  | tooManySinks
  /-- 4, `F_COUNT_MISMATCH` -/
  | countMismatch
deriving DecidableEq, Repr

/-- A recoverable event with its `info` (60_exceptions.md R350, R352), in the order of the codes 1 to 17. -/
inductive Event where
  | zeroLenPkt
  | seqDiscontinuity (expected got : BitVec 2)
  | pktLenMismatch (declared actual : Nat)
  | pktOverflow (b0 b1 : Byte)
  | svc0 (size : BitVec 5)
  | extSvcIllegal (svc : BitVec 6)
  | sbLenMismatch (svc : BitVec 6) (size : BitVec 5) (available : Nat)
  | unknownC0 (code : Byte)
  | p16 (b1 b2 : Byte)
  | reservedC1 (code : Byte)
  | unsupportedC2 (code : Byte)
  | unsupportedC3 (code : Byte)
  | c3VarlenAbandon (code : Byte) (skipped : Nat)
  | decodeTruncated (cmd : Byte) (mode : Mode) (remaining : Nat)
  | styleTransition (svc : BitVec 6) (old new : Style)
  | noSinks
  | sinkRefused (type : BufType)
deriving DecidableEq, Repr

/-- The shutdown report (60_exceptions.md R392). -/
structure Report where
  unknownCommands : Nat
  p16Occurrences : Nat
  lengthMismatches : Nat
  ambiguousStyles : Nat
  /-- the set of services with the ambiguous flag, in rising order -/
  ambiguousServices : List Nat
  /-- `cnt[e]` for every event code, in the order of the codes -/
  counters : List Nat
deriving DecidableEq, Repr

/-- A record on the diagnostic channel (00_scope.md R12): an event record `(code, verbose, info)`, the code
and the info being those of the event (R350); the fatal indication (R370); the shutdown report (R392). -/
inductive DiagRecord where
  | event (verbose : Bool) (e : Event)
  | fatal (cause : FatalCause)
  | report (r : Report)
deriving DecidableEq, Repr

/-- A buffer slot of the pool (R37). `numElements` is the length of `data` (log 11). -/
structure Slot where
  inUse : Bool
  type : BufType
  maxNumElements : Nat
  readers : Nat
  ts : Timestamp
  data : List Element
deriving DecidableEq, Repr

/-- `numElements`, "elements currently held" (R37, log 11). -/
def Slot.numElements (p : Slot) : Nat := p.data.length

/-- An entry of the sink registry: the identity of the sink and the type it declared (R38). -/
structure SinkEntry where
  sink : Nat
  consumes : BufType
deriving DecidableEq, Repr

/-- A call on the downstream channel (00_scope.md R10): which entry of the registry, which sink, and for an
`accept` the buffer with the timestamp and elements it holds at that moment. -/
inductive SinkCall where
  | accept (entry sink buf : Nat) (ts : Timestamp) (elements : List Element)
  | terminate (entry sink : Nat)
deriving DecidableEq, Repr

/-- What a sink may do to the substrate from inside a call (70_reset_and_hazards.md R413): release the
buffer it was given, and substrate operations on buffers of its own. -/
inductive SinkAct where
  | releaseGiven
  | release (h : Handle)
  | addReader (h : Handle)
  | allocate (type : BufType) (capacity : Nat)
  | append (h : Handle) (v : Element)
  | setTimestamp (h : Handle) (t : Timestamp)
deriving DecidableEq, Repr

/-- A sink's answer to one call, an input of the environment (R10, U18), and what it did inside the call. -/
structure Reply where
  success : Bool
  acts : List SinkAct
deriving DecidableEq, Repr

/-- What a channel operation returns. -/
inductive RetVal where
  | bool (b : Bool)
  | handle (h : Nat)
  | registered
  | refused
deriving DecidableEq, Repr

/-- MODEL: the loop that owns the cursors, which says which transients of R24, R25 and R36 exist (log 13). -/
inductive Phase where
  /-- between operations -/
  | host
  /-- `cidx` is at a construct of the input buffer (R160) -/
  | accept
  /-- a Flush is about to execute the packet header byte (R166) -/
  | header
  /-- `rd` is at a service-block header (R190) -/
  | parse
  /-- the block loop has stopped (R191); the last lines of Flush remain -/
  | parsed
  /-- `rd` is inside a service block that ends at `sb_end` (R221) -/
  | block
deriving DecidableEq, Repr

/-- MODEL: the upstream call being executed (log 13). -/
inductive InProgress where
  | none
  /-- `Accept` of the buffer `inbuf`, which held `n` bytes when the call began (R160) -/
  | accept (inbuf n : Nat)
  | terminate
deriving DecidableEq, Repr

/-- A byte memory: the cells that differ from what an unlisted address reads as, addresses strictly
rising. -/
abbrev Memory := List Host.Cell

/-- What an address of PKT reads as that no construct has written: the spec gives `pkt.buf` no reset value
and never reads it there (R21, U1); 0x00 is the model's choice (log 5). -/
def Memory.unlisted : Byte := 0x00

/-- The canonical form: addresses of PKT (R60: 0..127), strictly rising, no cell that an unlisted address
would read the same. -/
def Memory.wf : Memory → Bool
  | [] => true
  | [c] => decide (c.1 < Config.maxPkt) && decide (c.2 ≠ Memory.unlisted)
  | c :: d :: rest => decide (c.1 < d.1) && decide (c.2 ≠ Memory.unlisted) && Memory.wf (d :: rest)

/-! ### The state -/

/-- The state of one stream instance and the pool (R20). A field's docstring gives the spec's name and
rule; the fields marked MODEL are the model's own. -/
structure State where
  /-- the parameters of 00_scope.md R7; no instruction writes them (log 2) -/
  cfg : Params
  /-- `pkt.buf[0..127]`, R21 -/
  pktBuf : Memory
  /-- `pkt.len`, R21 -/
  pktLen : Cursor
  /-- `first_flush_done`, R22 -/
  firstFlushDone : Bool
  /-- `zero_len_logged`, R22 -/
  zeroLenLogged : Bool
  /-- `cur_ts`, R23 -/
  curTs : Timestamp
  /-- `cidx`, R24 -/
  cidx : Nat
  /-- `rd`, R24 -/
  rd : Cursor
  /-- `sb_svc`, R25 -/
  sbSvc : BitVec 6
  /-- `sb_len`, R25 -/
  sbLen : BitVec 5
  /-- `sb_end`, R25 -/
  sbEnd : Cursor
  /-- `cur_seq`, R25 -/
  curSeq : BitVec 2
  /-- `mode`, R26 -/
  mode : Mode
  /-- `remaining`, R27 -/
  remaining : PayloadCount
  /-- `cmd`, R28 -/
  cmd : Byte
  /-- `ext_phase`, R28 -/
  extPhase : ExtPhase
  /-- `acc[0..5]`, R29 -/
  acc : Vector Byte 6
  /-- `acc_n`, R29 -/
  accN : PayloadCount
  /-- `last_seq`, R30 -/
  lastSeq : BitVec 2
  /-- `last_seq_valid`, R30 -/
  lastSeqValid : Bool
  /-- `style[1..63]`, R31: entry `k` is service `k + 1` -/
  style : Vector Style 63
  /-- `ambiguous[1..63]`, R31: entry `k` is service `k + 1` -/
  ambiguous : Vector Bool 63
  /-- `cnt[e]`, R32: entry `k` is the event of code `k + 1` -/
  cnt : Vector Nat 17
  /-- `fatal`, R34 -/
  fatal : Bool
  /-- `fatal_cause`, R34 -/
  fatalCause : FatalCause
  /-- `terminated`, R35 -/
  terminated : Bool
  /-- `out`, R36 -/
  out : Handle
  /-- `expect_n`, R36 -/
  expectN : Nat
  /-- `ok`, R36 -/
  ok : Bool
  /-- `pool[0..POOL_SLOTS-1]`, R37 -/
  pool : List Slot
  /-- `sinks[0..n_sinks-1]`, R38; `n_sinks` is its length -/
  sinks : List SinkEntry
  /-- MODEL: which loop owns the cursors (log 13) -/
  phase : Phase
  /-- MODEL: the upstream call being executed (log 13) -/
  inProgress : InProgress
  /-- MODEL: what the last channel operation returned, `none` where it returned nothing (log 18) -/
  ret : Option RetVal
  /-- MODEL: history, how often each event has been raised since reset, entry `k` the event of code `k + 1`. No
  meaning reads it; the statements say with it what the counters come to (log 22) -/
  occurred : Vector Nat 17
  /-- MODEL: the diagnostic channel's stream so far, oldest first (log 18) -/
  diag : List DiagRecord
  /-- MODEL: the calls made on the downstream channel so far, oldest first (log 18) -/
  sinkCalls : List SinkCall
  /-- MODEL: the operations the agents have asked for, oldest first (log 7) -/
  requests : List Instr
  /-- MODEL: the sinks' coming answers, oldest first (log 8) -/
  replies : List Reply
  /-- MODEL: how many answers the free values have given beyond `replies` (log 8) -/
  sinkTick : Nat
deriving DecidableEq, Repr

/-- A free pool slot after reset: `in_use = 0` (R37); the other fields are unspecified there (log 4). -/
def Slot.free : Slot :=
  { inUse := false, type := .rawCc, maxNumElements := 0, readers := 0, ts := .none, data := [] }

/-- The machine right after reset (R44, R400). The fields R400 leaves unspecified are zero (log 4). -/
def State.reset : State :=
  { cfg := defaultParams
    pktBuf := [], pktLen := 0, firstFlushDone := false, zeroLenLogged := false, curTs := .none
    cidx := 0, rd := 0, sbSvc := 0, sbLen := 0, sbEnd := 0, curSeq := 0
    mode := .dataWait, remaining := 0, cmd := 0, extPhase := .code
    acc := Vector.replicate 6 0, accN := 0, lastSeq := 0, lastSeqValid := false
    style := Vector.replicate 63 .unset, ambiguous := Vector.replicate 63 false
    cnt := Vector.replicate 17 0
    fatal := false, fatalCause := .contract, terminated := false
    out := none, expectN := 0, ok := true
    pool := List.replicate defaultPoolSlots Slot.free, sinks := []
    phase := .host, inProgress := .none, ret := none, occurred := Vector.replicate 17 0, diag := []
    sinkCalls := []
    requests := [], replies := [], sinkTick := 0 }

end Sys2Proof.Machine
end

