-- ==== Sys2Proof/Machine/Operands.lean ====
section
/-! DEFINITION. The operand forms: what the spec extracts from the bytes of a packet header and of each C1
payload (30_encoding.md R93, R94, R105 to R112). "All sub-fields are unsigned mask+shift extractions; no
sign extension"; ignored bits are neither checked nor kept (R119). -/

namespace Sys2Proof.Machine

/-- `b[hi:lo]` is `field b lo (hi - lo + 1)` (00_scope.md R13). -/
def field (b : Byte) (lo width : Nat) : BitVec width := b.extractLsb' lo width

/-- The declared size of a packet: "128 if code is 0 else 2×code" (R94). -/
def declaredSize (code : BitVec 6) : Nat := if code = 0 then 128 else 2 * code.toNat

/-- The payload of SetPenAttributes (R108, R283). -/
def penAttributes (p1 p2 : Byte) : PenAttributes :=
  { penSize := field p1 0 2, offset := field p1 2 2, textTag := field p1 4 4
    fontTag := field p2 0 3, edgeType := field p2 3 3, underline := field p2 6 1, italic := field p2 7 1 }

/-- The payload of SetPenColor (R109, R284). -/
def penColor (p1 p2 p3 : Byte) : PenColor :=
  { fgOpacity := field p1 6 2, fgR := field p1 4 2, fgG := field p1 2 2, fgB := field p1 0 2
    bgOpacity := field p2 6 2, bgR := field p2 4 2, bgG := field p2 2 2, bgB := field p2 0 2
    edgeR := field p3 4 2, edgeG := field p3 2 2, edgeB := field p3 0 2 }

/-- The payload of SetPenLocation (R110, R285). -/
def penLocation (p1 p2 : Byte) : PenLocation := { row := field p1 0 4, column := field p2 0 6 }

/-- The payload of SetWindowAttributes (R111, R286); `border_type = (p3[7] << 2) | p2[7:6]`. -/
def windowAttributes (p1 p2 p3 p4 : Byte) : WindowAttributes :=
  { fillOpacity := field p1 6 2, fillR := field p1 4 2, fillG := field p1 2 2, fillB := field p1 0 2
    borderType := field p3 7 1 ++ field p2 6 2
    borderR := field p2 4 2, borderG := field p2 2 2, borderB := field p2 0 2
    wordWrap := field p3 6 1, printDirection := field p3 4 2, scrollDirection := field p3 2 2
    justify := field p3 0 2
    effectSpeed := field p4 4 4, effectDirection := field p4 2 2, displayEffect := field p4 0 2 }

/-- The payload of DefineWindow (R112, R287). -/
def windowDefinition (code p1 p2 p3 p4 p5 p6 : Byte) : WindowDefinition :=
  { windowId := field code 0 3
    visible := field p1 5 1, rowLock := field p1 4 1, columnLock := field p1 3 1, priority := field p1 0 3
    relativePositioning := field p2 7 1, anchorVertical := field p2 0 7
    anchorHorizontal := field p3 0 8
    anchorPoint := field p4 4 4, rowCount := field p4 0 4
    columnCount := field p5 0 6
    windowStyle := field p6 3 3, penStyle := field p6 0 3 }

/-- The byte of an element of an input buffer (20_memory.md R61, R63); a free value where a misbehaving
producer stored a unit there (log 12). -/
def elementByte (n : Nat) : Element → Byte
  | .byte b => b
  | .unit _ => Config.unitAsByte n

end Sys2Proof.Machine
end

