-- ==== Sys2Proof/Machine/Flags.lean ====
section
/-! DEFINITION. Flag and counter computations. There are no condition codes in the arithmetic sense
(10_state.md R42); what the machine computes are the saturating counters and the `verbose` bit of an event
record (R32, 60_exceptions.md R350 to R353), the sequence continuity test (41_packet_assembler.md R168) and
the figures of the shutdown report (R392). -/

namespace Sys2Proof.Machine

/-- The event code of R352. -/
def Event.code : Event → Nat
  | .zeroLenPkt => 1
  | .seqDiscontinuity _ _ => 2
  | .pktLenMismatch _ _ => 3
  | .pktOverflow _ _ => 4
  | .svc0 _ => 5
  | .extSvcIllegal _ => 6
  | .sbLenMismatch _ _ _ => 7
  | .unknownC0 _ => 8
  | .p16 _ _ => 9
  | .reservedC1 _ => 10
  | .unsupportedC2 _ => 11
  | .unsupportedC3 _ => 12
  | .c3VarlenAbandon _ _ => 13
  | .decodeTruncated _ _ _ => 14
  | .styleTransition _ _ _ => 15
  | .noSinks => 16
  | .sinkRefused _ => 17

/-- The code of a fatal cause (R371). -/
def FatalCause.code : FatalCause → Nat
  | .contract => 1
  | .poolExhausted => 2
  | .tooManySinks => 3
  | .countMismatch => 4

/-- `limit(EV_X)` (R351, R352): how many occurrences are reported in full, where there is a limit. -/
def eventLimit (cfg : Params) : Event → Option Nat
  | .zeroLenPkt => some 1
  | .pktLenMismatch _ _ => some Config.lenMismatchLogLimit
  | .p16 _ _ => some cfg.p16LogLimit
  | _ => none

/-- The largest value of a counter, `2^CNT_W - 1` (10_state.md R32). -/
def counterMax (cfg : Params) : Nat := 2 ^ cfg.cntW - 1

/-- A counter after one more occurrence: it saturates (R32, R351). -/
def bump (cfg : Params) (n : Nat) : Nat := if n < counterMax cfg then n + 1 else n

/-- The counter of the event code `code` (1..17). -/
def counterOf (s : State) (code : Nat) : Nat := s.cnt[code - 1]?.getD 0

/-- How often the event code `code` (1..17) has been raised since reset. -/
def occurrencesOf (s : State) (code : Nat) : Nat := s.occurred[code - 1]?.getD 0

/-- The `verbose` bit of an occurrence whose counter is `n` after the increment: "an event is reported in full
iff its counter after the increment is ≤ its limit" (10_state.md R32, R43 (a), R351). Of `EV_ZERO_LEN_PKT` the
rule itself says "verbose iff zero_len_logged = 0" (41_packet_assembler.md R167). -/
def verboseBit (s : State) (e : Event) (n : Nat) : Bool :=
  match e with
  | .zeroLenPkt => !s.zeroLenLogged
  | _ =>
    match eventLimit s.cfg e with
    | none => true
    | some limit => decide (n ≤ limit)

/-- The sequence number the next packet should carry: `(last_seq + 1) mod 4` (R168). -/
def nextSeq (lastSeq : BitVec 2) : BitVec 2 := lastSeq + 1

/-- The index of a service in the style register file: services are numbered 1..63 (10_state.md R31). -/
def svcIndex (svc : BitVec 6) : Nat := svc.toNat - 1

/-- `style[svc]`. -/
def styleOf (s : State) (svc : BitVec 6) : Style := s.style[svcIndex svc]?.getD .unset

/-- `ambiguous[svc]`. -/
def ambiguousOf (s : State) (svc : BitVec 6) : Bool := s.ambiguous[svcIndex svc]?.getD false

/-- The services with the ambiguous flag, in rising order (R344, R392). -/
def ambiguousServices (s : State) : List Nat :=
  ((List.range Config.nSvc).filter fun k => s.ambiguous[k]?.getD false).map (· + 1)

/-- The shutdown report (R392): what each of D0's four figures sums, the ambiguous set, every counter. -/
def reportOf (s : State) : Report :=
  { unknownCommands :=
      counterOf s 8 + counterOf s 10 + counterOf s 11 + counterOf s 12 + counterOf s 13
    p16Occurrences := counterOf s 9
    lengthMismatches := counterOf s 3
    ambiguousStyles := counterOf s 15
    ambiguousServices := ambiguousServices s
    counters := s.cnt.toList }

end Sys2Proof.Machine
end

