-- ==== Sys2Proof/Machine/Ops.lean ====
section
/-! DEFINITION. The shared operations: reading and writing PKT, raising a recoverable event, raising a fatal
condition, and the substrate (20_memory.md R60 to R69, 60_exceptions.md R350 to R371, 40_buffer_fanout.md
R130 to R138).

Every operation is a function of the state to a state. A fatal condition latches `fatal`; "no later line of
it, or of any rule that called it, runs" (R370) is `State.andThen`, which every sequence of lines with a
possible fatal condition goes through. -/

namespace Sys2Proof.Machine

/-- The next line of a rule: it runs unless an earlier line was fatal (R370). -/
def State.andThen (s : State) (f : State → State) : State := if s.fatal then s else f s

/-! ### PKT -/

/-- `MemRead(PKT, a, 1)` (R14, R69). -/
def Memory.read : Memory → Nat → Byte
  | [], _ => Memory.unlisted
  | c :: rest, a => if c.1 = a then c.2 else Memory.read rest a

/-- `b` at address `a` in front of a list of cells whose addresses are all above `a`. -/
def Memory.cons (a : Nat) (b : Byte) (m : Memory) : Memory :=
  if b = Memory.unlisted then m else (a, b) :: m

/-- The cells with address `a` holding `b`, in canonical form. -/
def Memory.insert (a : Nat) (b : Byte) : Memory → Memory
  | [] => Memory.cons a b []
  | c :: rest =>
    if a < c.1 then Memory.cons a b (c :: rest)
    else if a = c.1 then Memory.cons a b rest
    else c :: Memory.insert a b rest

/-- `MemWrite(PKT, a, 1, b)`; PKT has the addresses 0..127 and no other (R60), and every write of the
assembler is inside (R66). -/
def Memory.write (m : Memory) (a : Nat) (b : Byte) : Memory :=
  if a < Config.maxPkt then Memory.insert a b m else m

/-- The byte of PKT at `a`. -/
def pktByte (s : State) (a : Nat) : Byte := s.pktBuf.read a

/-- The bytes `pkt.buf[lo..hi)`. -/
def pktBytes (s : State) (lo hi : Nat) : List Byte := (List.range (hi - lo)).map fun k => pktByte s (lo + k)

/-- The two payload bytes of a construct appended at `pkt.len` (41_packet_assembler.md R161, R162). -/
def appendPair (b0 b1 : Byte) (s : State) : State :=
  { s with
    pktBuf := (s.pktBuf.write s.pktLen.val b0).write (s.pktLen.val + 1) b1
    pktLen := cursor (s.pktLen.val + 2) }

/-! ### Taking an exception

A recoverable event saves nothing, redirects nothing and has no handler; its return is the next line of the
rule that raised it (R351, R381). A fatal condition has no return (R370). -/

/-- `event EV_X(info)`: count the occurrence and put its record on the diagnostic channel (R351). -/
def raise (e : Event) (s : State) : State :=
  let n := bump s.cfg (counterOf s e.code)
  { s with
    cnt := s.cnt.setIfInBounds (e.code - 1) n
    occurred := s.occurred.setIfInBounds (e.code - 1) (occurrencesOf s e.code + 1)
    diag := s.diag ++ [.event (verboseBit s e n) e] }

/-- `fatal F_X`: latch the halt and its cause, and signal it (R370). -/
def raiseFatal (c : FatalCause) (s : State) : State :=
  { s with fatal := true, fatalCause := c, diag := s.diag ++ [.fatal c] }

/-! ### The substrate -/

/-- The slot a handle names: `none` for `NULL`, an index out of range, or a slot not in use, which are the
"null/contract-violating arguments" of R62 and R130. -/
def slotOf (s : State) : Handle → Option (Nat × Slot)
  | none => none
  | some i =>
    match s.pool[i]? with
    | none => none
    | some p => if p.inUse then some (i, p) else none

/-- The operation `f` on the slot a handle names, or `fatal F_CONTRACT` (R130). -/
def withSlot (h : Handle) (f : Nat → Slot → State → State) (s : State) : State :=
  match slotOf s h with
  | none => raiseFatal .contract s
  | some (i, p) => f i p s

/-- Slot `i` of the pool becomes `p`. -/
def setSlot (i : Nat) (p : Slot) (s : State) : State := { s with pool := s.pool.set i p }

/-- The slot `Allocate` takes: the lowest free index, which U2 and D40 permit (log 10). -/
def freeSlot (s : State) : Option Nat := s.pool.findIdx? fun p => !p.inUse

/-- A freshly allocated slot (R131): one reader, which is the producer's own reference; no timestamp; the
`data` of R131 corner (e) is not held (log 11). -/
def freshSlot (type : BufType) (capacity : Nat) : Slot :=
  { inUse := true, type := type, maxNumElements := capacity, readers := 1, ts := .none, data := [] }

/-- `Allocate(type, capacity)` (R131): the handle, or `NULL` with the machine halted. -/
def allocate (type : BufType) (capacity : Nat) (s : State) : Handle × State :=
  match freeSlot s with
  | none => (none, raiseFatal .poolExhausted s)
  | some i => (some i, setSlot i (freshSlot type capacity) s)

/-- `Append(h, v)` (R132). -/
def append (h : Handle) (v : Element) : State → State :=
  withSlot h fun i p s =>
    if p.numElements = p.maxNumElements then raiseFatal .countMismatch s
    else setSlot i { p with data := p.data ++ [v] } s

/-- `SetTimestamp(h, t)` (R132). -/
def setTimestamp (h : Handle) (t : Timestamp) : State → State :=
  withSlot h fun i p s => setSlot i { p with ts := t } s

/-- `AddReader(h)` (R133). -/
def addReader (h : Handle) : State → State :=
  withSlot h fun i p s => setSlot i { p with readers := p.readers + 1 } s

/-- `Release(h)` (R134): "decrements and frees at zero"; the freed slot's `data` is not cleared. -/
def release (h : Handle) : State → State :=
  withSlot h fun i p s =>
    if p.readers = 0 then raiseFatal .contract s
    else setSlot i { p with readers := p.readers - 1, inUse := decide (p.readers - 1 ≠ 0) } s

/-! ### The downstream channel -/

/-- The next answer of the environment (00_scope.md R10, U18): the next entry of the script, or beyond its
end the free values (log 8). Only an `accept` gives the sink a buffer it can release. -/
def nextReply (given : Handle) (s : State) : Reply × State :=
  match s.replies with
  | r :: rest => (r, { s with replies := rest })
  | [] =>
    ({ success := Config.sinkAnswer s.sinkTick
       acts := if given.isSome && Config.sinkReleases s.sinkTick then [.releaseGiven] else [] },
     { s with sinkTick := s.sinkTick + 1 })

/-- One thing a sink does from inside the call that gave it the buffer `given` (R413, log 9); a
`terminate` gives it none, and there is then nothing of that kind to release. -/
def sinkAct (given : Handle) : SinkAct → State → State
  | .releaseGiven => if given.isSome then release given else id
  | .release h => release h
  | .addReader h => addReader h
  | .allocate t c => fun s => (allocate t c s).2
  | .append h v => append h v
  | .setTimestamp h t => setTimestamp h t

/-- The things a sink does from inside one call, in order. -/
def sinkActs (given : Handle) : List SinkAct → State → State
  | [], s => s
  | a :: rest, s => (sinkAct given a s).andThen (sinkActs given rest)

/-- `oracle sinks[k].accept(buf)` (R14, R136). -/
def sinkAccept (k : Nat) (e : SinkEntry) (buf : Nat) (s : State) : Bool × State :=
  let p := (s.pool[buf]?).getD Slot.free
  let (r, s1) := nextReply (some buf) { s with sinkCalls := s.sinkCalls ++ [.accept k e.sink buf p.ts p.data] }
  (r.success, sinkActs (some buf) r.acts s1)

/-- `oracle sinks[k].terminate()` (R14, R137). -/
def sinkTerminate (k : Nat) (e : SinkEntry) (s : State) : Bool × State :=
  let (r, s1) := nextReply none { s with sinkCalls := s.sinkCalls ++ [.terminate k e.sink] }
  (r.success, sinkActs none r.acts s1)

/-- A call to each sink in registration order, with the AND of the answers; no short circuit, whatever a
sink answers (R136, R137). -/
def callSinks (call : Nat → SinkEntry → State → Bool × State) :
    Nat → List SinkEntry → Bool → State → Bool × State
  | _, [], result, s => (result, s)
  | k, e :: rest, result, s =>
    if s.fatal then (result, s)
    else
      let (r, s1) := call k e s
      callSinks call (k + 1) rest (result && r) s1

/-- `AddReader(h)` once per sink (R136). -/
def addReaders (h : Handle) : Nat → State → State
  | 0, s => s
  | n + 1, s => (addReader h s).andThen (addReaders h n)

/-- `Dispatch(h, sinks)` (R136): all increments happen before the first `accept`. -/
def dispatch (h : Handle) (s : State) : Bool × State :=
  match slotOf s h with
  | none => (false, raiseFatal .contract s)
  | some (i, _) =>
    if s.sinks.isEmpty then (false, raise .noSinks s)
    else callSinks (fun k e => sinkAccept k e i) 0 s.sinks true (addReaders h s.sinks.length s)

/-- `Shutdown(sinks)` (R137). -/
def shutdown (s : State) : Bool × State := callSinks sinkTerminate 0 s.sinks true s

/-- `Report()` (60_exceptions.md R392). -/
def report (s : State) : State := { s with diag := s.diag ++ [.report (reportOf s)] }

/-! ### Units -/

/-- `emit U` (00_scope.md R14, R132): append the unit to the output buffer; with no output buffer it is
`fatal F_COUNT_MISMATCH` (42_service_block_parser.md R198). Every unit is tagged with the service of the
block and the sequence number of the packet (43_decoder_c0.md R220). -/
def emit (body : Body) (s : State) : State :=
  match s.out with
  | none => raiseFatal .countMismatch s
  | some h => append (some h) (.unit { svc := s.sbSvc, seq := s.curSeq, body := body }) s

end Sys2Proof.Machine
end

