-- ==== Sys2Proof/Machine/Classifier.lean ====
section
/-! DEFINITION. The caption-style classifier (47_style_classifier.md R340 to R344). -/

namespace Sys2Proof.Machine

/-- `style[svc] <- c` (10_state.md R31). -/
def setStyle (svc : BitVec 6) (c : Style) (s : State) : State :=
  { s with style := s.style.setIfInBounds (svcIndex svc) c }

/-- `ambiguous[svc] <- 1` (10_state.md R31). -/
def setAmbiguous (svc : BitVec 6) (s : State) : State :=
  { s with ambiguous := s.ambiguous.setIfInBounds (svcIndex svc) true }

/-- `Classify(s, ws)` (R342). `svc = 0`, which cannot occur (R342 corner g), has no register and changes
nothing (log 23). -/
def classify (svc : BitVec 6) (ws : BitVec 3) (s : State) : State :=
  let c := styleClassOf s.cfg.styleClass ws
  let old := styleOf s svc
  if svc = 0 ∨ c = .unset then s
  else if old = .unset then setStyle svc c s
  else if old ≠ c then
    setStyle svc c (raise (.styleTransition svc old c) (setAmbiguous svc s))
  else s

end Sys2Proof.Machine
end

