-- ==== Sys2Proof/Machine/Decoder.lean ====
section
/-! DEFINITION. The Command/Character Decoder as the spec gives it: one byte per step, four modes
(43_decoder_c0.md, 44_chars_g0_g1.md, 45_c1_commands.md, 46_extended_codes.md), and the pre-scan of a
service block (42_service_block_parser.md R197). -/

namespace Sys2Proof.Machine

/-! ### The frame -/

/-- `Complete()`, the common ending of every multi-byte code (R225). -/
def complete (s : State) : State :=
  { s with mode := .dataWait, remaining := 0, accN := 0, extPhase := .code }

/-- `Truncated()`: the block ended inside a code (R224). -/
def truncated (s : State) : State := complete (raise (.decodeTruncated s.cmd s.mode s.remaining.val) s)

/-- `remaining <- remaining - 1`; it "is never decremented at 0" (R241). -/
def countDown (s : State) : State := { s with remaining := payloadCount (s.remaining.val - 1) }

/-- `acc[acc_n] <- b; acc_n <- acc_n + 1; remaining <- remaining - 1` (R226, R271); "`acc_n` counts up to at
most 6" (R241). -/
def collect (b : Byte) (s : State) : State :=
  countDown { s with acc := s.acc.setIfInBounds s.accN.val b, accN := payloadCount (s.accN.val + 1) }

/-- `acc[k]`, the payload byte `p(k+1)`. -/
def accByte (s : State) (k : Nat) : Byte := s.acc[k]?.getD 0

/-- `mode <- m; cmd <- b; remaining <- n; acc_n <- 0` (R223). -/
def enterPending (m : Mode) (b : Byte) (n : PayloadCount) (s : State) : State :=
  { s with mode := m, cmd := b, remaining := n, accN := 0 }

/-! ### C0 (R226, R230 to R240) -/

/-- A single-byte C0 code: recognised codes yield a unit (R230 to R235), the others an event (R236). -/
def c0Single (b : Byte) (s : State) : State :=
  if b ∈ s.cfg.c0Known then emit (.c0 b) s else raise (.unknownC0 b) s

/-- `P16_complete()` (R239). -/
def p16Complete (s : State) : State :=
  (emit (.c0P16 (accByte s 0) (accByte s 1)) s).andThen (raise (.p16 (accByte s 0) (accByte s 1)))

/-- The C0_PENDING step (R226). -/
def c0Byte (b : Byte) (s : State) : State :=
  let s1 := collect b s
  if s1.remaining = 0 then
    (if s1.cmd = 0x18 then p16Complete s1 else raise (.unknownC0 s1.cmd) s1).andThen complete
  else s1

/-! ### G0 and G1 (R260, R262) -/

/-- A G0 character (R260). -/
def g0Char (b : Byte) (s : State) : State := emit (.g0 b (romGlyph s.cfg.g0Table 0x20 b)) s

/-- A G1 character (R262). -/
def g1Char (b : Byte) (s : State) : State := emit (.g1 b (romGlyph s.cfg.g1Table 0xA0 b)) s

/-! ### C1 (R270 to R288, R296): `p1..p6` are `acc[0]..acc[5]` -/

/-- SetCurrentWindow, DelayCancel, Reset: no payload (R274, R281, R282). -/
def ruleNoPayload (s : State) : State := emit (.c1 s.cmd .none) s

/-- ClearWindows, DisplayWindows, HideWindows, ToggleWindows, DeleteWindows (R275 to R279). -/
def ruleBitmap (s : State) : State := emit (.c1 s.cmd (.windowBitmap (accByte s 0))) s

/-- Delay (R280). -/
def ruleDelay (s : State) : State := emit (.c1 s.cmd (.delay (accByte s 0))) s

/-- SetPenAttributes (R283). -/
def rulePenAttributes (s : State) : State :=
  emit (.c1 s.cmd (.penAttributes (penAttributes (accByte s 0) (accByte s 1)))) s

/-- SetPenColor (R284). -/
def rulePenColor (s : State) : State :=
  emit (.c1 s.cmd (.penColor (penColor (accByte s 0) (accByte s 1) (accByte s 2)))) s

/-- SetPenLocation (R285). -/
def rulePenLocation (s : State) : State :=
  emit (.c1 s.cmd (.penLocation (penLocation (accByte s 0) (accByte s 1)))) s

/-- SetWindowAttributes (R286). -/
def ruleWindowAttributes (s : State) : State :=
  emit (.c1 s.cmd (.windowAttributes
    (windowAttributes (accByte s 0) (accByte s 1) (accByte s 2) (accByte s 3)))) s

/-- DefineWindow: the unit, then the classifier (R272, R287). -/
def ruleDefineWindow (s : State) : State :=
  let w := windowDefinition s.cmd (accByte s 0) (accByte s 1) (accByte s 2) (accByte s 3) (accByte s 4)
    (accByte s 5)
  (emit (.c1 s.cmd (.windowDefinition w)) s).andThen (classify s.sbSvc w.windowStyle)

/-- The rule of the C1 code `cmd` (R104, R274 to R287, R296). -/
def c1Rule (s : State) : State :=
  let n := s.cmd.toNat
  if n ≤ 0x87 then ruleNoPayload s
  else if n ≤ 0x8C then ruleBitmap s
  else if n ≤ 0x8D then ruleDelay s
  else if n ≤ 0x8F then ruleNoPayload s
  else if n ≤ 0x90 then rulePenAttributes s
  else if n ≤ 0x91 then rulePenColor s
  else if n ≤ 0x92 then rulePenLocation s
  else if n ≤ 0x96 then raise (.reservedC1 s.cmd) s
  else if n ≤ 0x97 then ruleWindowAttributes s
  else ruleDefineWindow s

/-- `C1_complete()` (R272, R296). -/
def c1Complete (s : State) : State :=
  (if s.cfg.c1.isReserved s.cmd then raise (.reservedC1 s.cmd) s else c1Rule s).andThen complete

/-- C1 entry (R270). -/
def c1Entry (b : Byte) (s : State) : State :=
  let s1 := { s with cmd := b, accN := 0, remaining := payloadCount (s.cfg.c1.lenOf b - 1) }
  if s1.remaining = 0 then c1Complete s1 else { s1 with mode := .c1Pending }

/-- The C1_PENDING step (R271). -/
def c1Byte (b : Byte) (s : State) : State :=
  let s1 := collect b s
  if s1.remaining = 0 then c1Complete s1 else s1

/-! ### The extended codes (R310 to R323) -/

/-- `C2_complete()` (R311). -/
def c2Complete (s : State) : State :=
  ((emit (.c2 s.cmd (c2Extra s.cmd)) s).andThen (raise (.unsupportedC2 s.cmd))).andThen complete

/-- `C3_complete()` (R311). -/
def c3Complete (s : State) : State :=
  ((emit (.c3 s.cmd (c3Extra s.cmd)) s).andThen (raise (.unsupportedC3 s.cmd))).andThen complete

/-- `G2_char(e)` (R316). -/
def g2Char (e : Byte) (s : State) : State :=
  (emit (.g2 e (sparseGlyph s.cfg.g2Table e)) s).andThen complete

/-- `G3_char(e)` (R321). -/
def g3Char (e : Byte) (s : State) : State :=
  (emit (.g3 e (sparseGlyph s.cfg.g3Table e)) s).andThen complete

/-- `C3_abandon(e)`: the rest of the service block is skipped (R320). -/
def c3Abandon (e : Byte) (s : State) : State :=
  complete { raise (.c3VarlenAbandon e (s.sbEnd.val - s.rd.val)) s with rd := s.sbEnd }

/-- EXTENDED_PENDING in phase CODE: `e` is the extended code byte (R311). -/
def extCodeByte (e : Byte) (s : State) : State :=
  if e.toNat ≤ 0x1F then
    let s1 := { s with cmd := e, remaining := payloadCount (c2Extra e) }
    if s1.remaining = 0 then c2Complete s1 else { s1 with extPhase := .skip }
  else if e.toNat ≤ 0x7F then g2Char e s
  else if e.toNat ≤ 0x8F then { s with cmd := e, remaining := payloadCount (c3Extra e), extPhase := .skip }
  else if e.toNat ≤ 0x9F then c3Abandon e s
  else g3Char e s

/-- EXTENDED_PENDING in phase SKIP: the byte is discarded (R311). -/
def extSkipByte (s : State) : State :=
  let s1 := countDown s
  if s1.remaining = 0 then (if s1.cmd.toNat ≤ 0x1F then c2Complete s1 else c3Complete s1) else s1

/-- The EXTENDED_PENDING step (R311). -/
def extByte (b : Byte) (s : State) : State :=
  match s.extPhase with
  | .code => extCodeByte b s
  | .skip => extSkipByte s

/-! ### The step of the decoder and the block -/

/-- The DATA_WAIT dispatch (R223). -/
def dataWaitByte (b : Byte) (s : State) : State :=
  let n := b.toNat
  if n ≤ 0x0F then c0Single b s
  else if n ≤ 0x10 then
    { s with mode := .extendedPending, cmd := 0x10, extPhase := .code, remaining := 1 }
  else if n ≤ 0x17 then enterPending .c0Pending b 1 s
  else if n ≤ 0x1F then enterPending .c0Pending b 2 s
  else if n ≤ 0x7F then g0Char b s
  else if n ≤ 0x9F then c1Entry b s
  else g1Char b s

/-- `DecodeByte(b)`: one step of the state machine, selected by `mode` (R222). -/
def decodeByte (b : Byte) (s : State) : State :=
  match s.mode with
  | .dataWait => dataWaitByte b s
  | .c0Pending => c0Byte b s
  | .c1Pending => c1Byte b s
  | .extendedPending => extByte b s

/-- `rd <- rd + 1`, then `DecodeByte(b)` (R221). -/
def consume (b : Byte) (s : State) : State :=
  decodeByte b { s with rd := cursor (s.rd.val + 1) }

/-- The loop of `DecodeBlock` (R221); `fuel` bounds the bytes left. -/
def decodeLoop : Nat → State → State
  | 0, s => s
  | fuel + 1, s =>
    if s.fatal then s
    else if s.rd.val < s.sbEnd.val then decodeLoop fuel (consume (pktByte s s.rd.val) s)
    else s

/-- `if mode ≠ DATA_WAIT: call Truncated()` (R221). -/
def endOfBytes (s : State) : State := if s.mode = .dataWait then s else truncated s

/-- `DecodeBlock()` (R221). -/
def decodeBlock (s : State) : State :=
  (decodeLoop (s.sbEnd.val - s.rd.val) s).andThen endOfBytes

/-! ### The pre-scan -/

/-- Whether a complete code that begins with `b ≠ 0x10` yields a unit, under the parameters `p` (R197). -/
def emitsUnit (p : Params) (b : Byte) : Bool :=
  decide (b ∈ p.c0Known) || b == 0x18 || (decide (0x20 ≤ b.toNat) && decide (b.toNat ≤ 0x7F)) ||
    decide (0xA0 ≤ b.toNat) ||
    (decide (0x80 ≤ b.toNat) && decide (b.toNat ≤ 0x9F) && !p.c1.isReserved b)

/-- The pre-scan of the bytes of a block (R197); `fuel` bounds the codes left. -/
def preCountBytes (p : Params) : Nat → List Byte → Nat
  | 0, _ => 0
  | _ + 1, [] => 0
  | fuel + 1, b :: rest =>
    if b = 0x10 then
      match rest with
      | [] => 0
      | e :: _ =>
        if 0x90 ≤ e.toNat ∧ e.toNat ≤ 0x9F then 0
        else if (b :: rest).length < totalLenExtended e then 0
        else 1 + preCountBytes p fuel ((b :: rest).drop (totalLenExtended e))
    else if (b :: rest).length < totalLen p.c1 b then 0
    else
      (if emitsUnit p b then 1 else 0) + preCountBytes p fuel ((b :: rest).drop (totalLen p.c1 b))

/-- `PreCount(lo, hi)` (R197): reads `pkt.buf[lo..hi)` and changes no state. -/
def preCount (s : State) (lo hi : Nat) : Nat :=
  preCountBytes s.cfg (hi - lo) (pktBytes s lo hi)

end Sys2Proof.Machine
end

