-- ==== Sys2Proof/Machine/Parser.lean ====
section
/-! DEFINITION. The Service Block Parser (42_service_block_parser.md R190 to R201). -/

namespace Sys2Proof.Machine

/-! ### One service block -/

/-- The first lines of `ProcessBlock`: the pre-count, and the output buffer sized exactly, stamped with
`cur_ts`; no buffer where the count is 0 (R198). -/
def openBlock (s : State) : State :=
  let n := preCount s s.rd.val s.sbEnd.val
  let s0 := { s with expectN := n, phase := .block }
  if n = 0 then { s0 with out := none }
  else
    let (h, s1) := allocate .dtvccUnits n s0
    s1.andThen fun t => setTimestamp h t.curTs { t with out := h }

/-- `got` of `CountCheck` (R199): the units in the output buffer, 0 without one. -/
def unitsEmitted (s : State) : Nat :=
  match s.out with
  | none => 0
  | some i => ((s.pool[i]?).getD Slot.free).numElements

/-- `CountCheck()` (R199). -/
def countCheck (s : State) : State :=
  if unitsEmitted s = s.expectN then s else raiseFatal .countMismatch s

/-- `Deliver()` (R200): dispatch, note the result in `ok`, drop the producer's reference. -/
def deliver (s : State) : State :=
  let (r, s1) := dispatch s.out s
  s1.andThen fun t => (release t.out { t with ok := t.ok && r }).andThen fun u => { u with out := none }

/-- The last lines of `ProcessBlock` (R198): the count check, and delivery where there is a buffer; the
block loop goes on. -/
def closeBlock (s : State) : State :=
  ((countCheck s).andThen fun t => if t.out = none then t else deliver t).andThen
    fun t => { t with phase := .parse }

/-- `ProcessBlock()` (R198). -/
def processBlock (s : State) : State :=
  ((openBlock s).andThen decodeBlock).andThen closeBlock

/-! ### The block headers -/

/-- The block loop stops (R190, R191). -/
def stopParse (s : State) : State := { s with phase := .parsed }

/-- `rd <- rd + n`. -/
def advance (n : Nat) (s : State) : State := { s with rd := cursor (s.rd.val + n) }

/-- The lines of R190 from `avail <- pkt.len - rd` on, with the clamp of R196. -/
def takeBlock (svc : BitVec 6) (size : BitVec 5) (s : State) : State :=
  let avail := s.pktLen.val - s.rd.val
  let n := min size.toNat avail
  let s1 := if avail < size.toNat then raise (.sbLenMismatch svc size avail) s else s
  processBlock { s1 with sbSvc := svc, sbLen := size, sbEnd := cursor (s1.rd.val + n) }

/-- `event EV_SVC0(bs); rd <- pkt.len; stop` (R195). -/
def abandonPacket (size : BitVec 5) (s : State) : State :=
  stopParse { raise (.svc0 size) s with rd := s.pktLen }

/-- `SB_NULL` (R192): parsing of the packet ends, `rd` stays on the header byte, nothing is logged. -/
def sbNull (s : State) : State := stopParse s

/-- `SB_SVC0` (R195); the header byte is consumed before (R190). -/
def sbSvc0 (size : BitVec 5) (s : State) : State := abandonPacket size (advance 1 s)

/-- `SB_STD` (R193). -/
def sbStd (svc : BitVec 3) (size : BitVec 5) (s : State) : State :=
  takeBlock (svc.setWidth 6) size (advance 1 s)

/-- `SB_EXT` (R194): two header bytes; an extended number below 7 is logged, 0 is R195. -/
def sbExt (size : BitVec 5) (svc : BitVec 6) (s : State) : State :=
  let s1 := advance 2 s
  let s2 := if svc.toNat < 7 then raise (.extSvcIllegal svc) s1 else s1
  if svc = 0 then abandonPacket size s2 else takeBlock svc size s2

/-! ### The block loop -/

/-- One iteration of the loop of R190. -/
def parseStep (s : State) : State :=
  if s.pktLen.val - s.rd.val < 2 then stopParse s
  else
    let h := pktByte s s.rd.val
    if hdrSize h = 0 then sbNull s
    else if hdrService h = 7 then sbExt (hdrSize h) (extService (pktByte s (s.rd.val + 1))) s
    else if hdrService h = 0 then sbSvc0 (hdrSize h) s
    else sbStd (hdrService h) (hdrSize h) s

/-- The loop of R190; every iteration that does not stop advances `rd`, so `fuel` iterations are enough
when `fuel` is the number of bytes left. -/
def parseLoop : Nat → State → State
  | 0, s => s.andThen stopParse
  | fuel + 1, s =>
    if s.fatal then s
    else if s.phase = .parse then parseLoop fuel (parseStep s)
    else s

/-- `rd <- 1`, and the block loop begins (R190). -/
def enterParse (s : State) : State := { s with rd := cursor 1, phase := .parse }

/-- `ParseBlocks()` (R190). -/
def parseBlocks (s : State) : State := parseLoop s.pktLen.val (enterParse s)

end Sys2Proof.Machine
end

