-- ==== Sys2Proof/Machine/Assembler.lean ====
section
/-! DEFINITION. The Packet Assembler: the constructs, Flush, Accept and Terminate
(41_packet_assembler.md R160 to R174), and the reset of the block (70_reset_and_hazards.md R400). -/

namespace Sys2Proof.Machine

/-! ### Flush -/

/-- `ZeroLength()` (R167); the record's `verbose` bit is read from `zero_len_logged` (`verboseBit`). -/
def zeroLength (s : State) : State :=
  if s.firstFlushDone then { raise .zeroLenPkt s with zeroLenLogged := true } else s

/-- `SeqCheck(s)` (R168). -/
def seqCheck (seq : BitVec 2) (s : State) : State :=
  let s1 :=
    if s.lastSeqValid && seq != nextSeq s.lastSeq then
      raise (.seqDiscontinuity (nextSeq s.lastSeq) seq) s
    else s
  { s1 with lastSeq := seq, lastSeqValid := true }

/-- The packet-length check of Flush (R166, R169). -/
def lengthCheck (code : BitVec 6) (s : State) : State :=
  if declaredSize code = s.pktLen.val then s
  else raise (.pktLenMismatch (declaredSize code) s.pktLen.val) s

/-- The packet header byte: `cur_seq`, the sequence check, the length check (R93, R94, R166). -/
def packetHeader (seq : BitVec 2) (code : BitVec 6) (s : State) : State :=
  lengthCheck code (seqCheck seq { s with curSeq := seq })

/-- The loop the machine goes back to when a Flush ends: the constructs of the input buffer during an
`Accept`, the host otherwise (log 13). -/
def phaseAfterFlush (s : State) : Phase :=
  match s.inProgress with
  | .accept _ _ => .accept
  | _ => .host

/-- `first_flush_done <- 1; pkt.len <- 0` (R166). -/
def endFlush (s : State) : State :=
  { s with firstFlushDone := true, pktLen := cursor 0, phase := phaseAfterFlush s }

/-- `Flush()` (R166). -/
def flush (s : State) : State :=
  if s.pktLen.val = 0 then endFlush (zeroLength s)
  else
    let hdr := pktByte s 0
    let s1 := packetHeader (field hdr 6 2) (field hdr 0 6) { s with phase := .header }
    (parseBlocks s1).andThen endFlush

/-! ### The constructs -/

/-- `PS` (R161): flush and reset, then append. -/
def packetStart (b0 b1 : Byte) (s : State) : State := (flush s).andThen (appendPair b0 b1)

/-- `PS!` (R161): flush and reset, append nothing. -/
def packetStartInvalid (s : State) : State := flush s

/-- `PD` (R162): the two bytes are appended together or not at all. -/
def packetData (b0 b1 : Byte) (s : State) : State :=
  if s.pktLen.val + 2 > Config.maxPkt then raise (.pktOverflow b0 b1) s else appendPair b0 b1 s

/-- The construct `hdr b0 b1`, selected by `(tag, valid)` (30_encoding.md R92). -/
def construct (hdr b0 b1 : Byte) (s : State) : State :=
  if hdrTag hdr = s.cfg.tags.pktStart then
    if hdrValid hdr then packetStart b0 b1 s else packetStartInvalid s
  else if hdrTag hdr = s.cfg.tags.pktData then
    if hdrValid hdr then packetData b0 b1 s else s
  else s

/-! ### Accept -/

/-- `MemRead(INBUF, n, 1)` (20_memory.md R61). Where the slot holds no element `n`, which takes a sink that
has freed and allocated it again during the call, the byte is a free value (U3; DESIGN CHOICE, log 25). -/
def inbufByte (s : State) (inbuf n : Nat) : Byte :=
  match ((s.pool[inbuf]?).getD Slot.free).data[n]? with
  | some e => elementByte n e
  | none => Config.inbufBeyond s.sinkCalls.length n

/-- The checks of `Accept` after the one for `fatal`, and the lines up to its loop (R160). -/
def enterAccept (inbuf : Handle) (s : State) : State :=
  if s.terminated then raiseFatal .contract s
  else match slotOf s inbuf with
    | none => raiseFatal .contract s
    | some (i, p) =>
      if p.type ≠ .rawCc ∨ p.numElements % 3 ≠ 0 then raiseFatal .contract s
      else
        { s with
          curTs := p.ts, ok := true, cidx := 0
          phase := .accept, inProgress := .accept i p.numElements }

/-- The construct at `cidx` of the input buffer (R160). -/
def constructAt (inbuf : Nat) (s : State) : State :=
  construct (inbufByte s inbuf (3 * s.cidx)) (inbufByte s inbuf (3 * s.cidx + 1))
    (inbufByte s inbuf (3 * s.cidx + 2)) s

/-- `cidx` moves to the next construct (10_state.md R24). -/
def nextConstruct (s : State) : State := { s with cidx := s.cidx + 1 }

/-- The loop of `Accept` (R160): `count` constructs are left. -/
def acceptLoop (inbuf : Nat) : Nat → State → State
  | 0, s => s
  | count + 1, s => ((constructAt inbuf s).andThen nextConstruct).andThen (acceptLoop inbuf count)

/-- The last lines of `Accept`: the input buffer is released once, `ok` is returned (R160, R171). -/
def endAccept (inbuf : Nat) (s : State) : State :=
  (release (some inbuf) s).andThen fun t =>
    { t with ret := some (.bool t.ok), phase := .host, inProgress := .none }

/-- `Accept(inbuf)` (R160). -/
def acceptBuffer (inbuf : Handle) (s : State) : State :=
  (enterAccept inbuf s).andThen fun t =>
    match t.inProgress with
    | .accept i n => (acceptLoop i (n / 3) t).andThen (endAccept i)
    | _ => t

/-! ### Terminate -/

/-- The lines of `Terminate` before its Flush (R172). -/
def enterTerminate (s : State) : State :=
  if s.terminated then raiseFatal .contract s else { s with ok := true, inProgress := .terminate }

/-- The lines of `Terminate` after its Flush: shutdown, report, `terminated <- 1`, the result (R172). -/
def endTerminate (s : State) : State :=
  let (r, s1) := shutdown s
  s1.andThen fun t =>
    { report t with
      terminated := true, ret := some (.bool (t.ok && r)), phase := .host, inProgress := .none }

/-- `Terminate()` (R172). -/
def terminate (s : State) : State :=
  ((enterTerminate s).andThen flush).andThen endTerminate

/-! ### Registration and reset -/

/-- `RegisterSink(s, consumes)` (40_buffer_fanout.md R138): the type check comes before the count check. -/
def registerSink (sink : Nat) (consumes : BufType) (s : State) : State :=
  if consumes ≠ .dtvccUnits then { raise (.sinkRefused consumes) s with ret := some .refused }
  else if s.sinks.length = s.cfg.maxSinks then raiseFatal .tooManySinks s
  else { s with sinks := s.sinks ++ [{ sink := sink, consumes := consumes }], ret := some .registered }

/-- `Reset()` (70_reset_and_hazards.md R400); `pool` is false where one instance is reset while others hold
buffers (R401). A slot freed by the reset has no reader, as 10_state.md R39 (c) says of the state after reset.
What else R400 leaves unspecified keeps its value, and so do the parameters, the channels' streams and the
agents' scripts (log 6). -/
def resetMachine (pool : Bool) (s : State) : State :=
  { s with
    pktLen := cursor 0
    firstFlushDone := false, zeroLenLogged := false
    curTs := .none
    mode := .dataWait, remaining := 0, cmd := 0, extPhase := .code, accN := 0
    lastSeqValid := false
    style := Vector.replicate 63 .unset, ambiguous := Vector.replicate 63 false
    cnt := Vector.replicate 17 0, occurred := Vector.replicate 17 0
    fatal := false, terminated := false
    out := none
    sinks := []
    pool := if pool then s.pool.map fun p => { p with inUse := false, readers := 0 } else s.pool
    phase := .host, inProgress := .none, ret := none }

end Sys2Proof.Machine
end

