-- ==== Sys2Proof/Machine/Running.lean ====
section
/-! DEFINITION. How an instruction runs: not at all while the machine is halted, an upstream or wiring
operation only between operations, a code byte by byte inside its service block. -/

namespace Sys2Proof.Machine

/-- An instruction's effect, which it has unless the machine is halted (60_exceptions.md R370). -/
def live (f : State → State) (s : State) : Host.Outcome State Fault Refusal :=
  if s.fatal then .fault .halted else .next (f s)

/-- A channel operation: what an earlier one returned is gone (log 18). -/
def operation (f : State → State) (s : State) : Host.Outcome State Fault Refusal :=
  live (fun t => f { t with ret := none }) s

/-- `Accept`, `Terminate`, `RegisterSink`: never while an operation of the instance is in progress
(70_reset_and_hazards.md R413, U8; log 14). -/
def hostOperation (f : State → State) (s : State) : Host.Outcome State Fault Refusal :=
  if s.fatal then .fault .halted
  else if s.phase = .host then operation f s
  else .refused .reentrant

/-- The decoder takes the bytes one after the other (43_decoder_c0.md R221). -/
def feed : List Byte → State → State
  | [], s => s
  | b :: rest, s => if s.fatal then s else feed rest (consume b s)

/-- The code whose bytes are `bytes`, at `rd` inside the service block that ends at `sb_end`: the decoder
takes those of them that are in the block, and where the block ends inside the code it is truncated
(R221, R224; log 15). -/
def runCode (bytes : List Byte) (s : State) : State :=
  (feed (bytes.take (s.sbEnd.val - s.rd.val)) s).andThen fun t =>
    if t.rd.val < t.sbEnd.val then t else endOfBytes t

/-- The meaning of a level-C instruction with these bytes. -/
def code (bytes : List Byte) (s : State) : Host.Outcome State Fault Refusal := live (runCode bytes) s

end Sys2Proof.Machine
end

