-- ==== Sys2Proof/Machine/Codes.lean ====
section
/-! DEFINITION. The meanings of level C. The rule of a code is carried out by the decoder on the bytes of the
code (Sys2Proof/Machine/Decoder.lean): 43_decoder_c0.md R230 to R240, 44_chars_g0_g1.md R260, R262,
45_c1_commands.md R274 to R287, R296, 46_extended_codes.md R312 to R321. -/

namespace Sys2Proof.Machine

/-- `NUL` (R230). -/
def execNul (s : State) : Host.Outcome State Fault Refusal :=
  code [0x00] s

/-- `C0_UNK1` (R236). -/
def execC0Unk1 (b : Byte) (s : State) : Host.Outcome State Fault Refusal :=
  code [b] s

/-- `ETX` (R231). -/
def execEtx (s : State) : Host.Outcome State Fault Refusal :=
  code [0x03] s

/-- `BS` (R232). -/
def execBs (s : State) : Host.Outcome State Fault Refusal :=
  code [0x08] s

/-- `FF` (R233). -/
def execFf (s : State) : Host.Outcome State Fault Refusal :=
  code [0x0C] s

/-- `CR` (R234). -/
def execCr (s : State) : Host.Outcome State Fault Refusal :=
  code [0x0D] s

/-- `HCR` (R235). -/
def execHcr (s : State) : Host.Outcome State Fault Refusal :=
  code [0x0E] s

/-- `EXT1_C2_0` (R312). -/
def execExt1C20 (e : Byte) (s : State) : Host.Outcome State Fault Refusal :=
  code [0x10, e] s

/-- `EXT1_C2_1` (R313). -/
def execExt1C21 (e x1 : Byte) (s : State) : Host.Outcome State Fault Refusal :=
  code [0x10, e, x1] s

/-- `EXT1_C2_2` (R314). -/
def execExt1C22 (e x1 x2 : Byte) (s : State) : Host.Outcome State Fault Refusal :=
  code [0x10, e, x1, x2] s

/-- `EXT1_C2_3` (R315). -/
def execExt1C23 (e x1 x2 x3 : Byte) (s : State) : Host.Outcome State Fault Refusal :=
  code [0x10, e, x1, x2, x3] s

/-- `EXT1_G2` (R316). -/
def execExt1G2 (e : Byte) (s : State) : Host.Outcome State Fault Refusal :=
  code [0x10, e] s

/-- `EXT1_C3_4` (R318). -/
def execExt1C34 (e x1 x2 x3 x4 : Byte) (s : State) : Host.Outcome State Fault Refusal :=
  code [0x10, e, x1, x2, x3, x4] s

/-- `EXT1_C3_5` (R319). -/
def execExt1C35 (e x1 x2 x3 x4 x5 : Byte) (s : State) : Host.Outcome State Fault Refusal :=
  code [0x10, e, x1, x2, x3, x4, x5] s

/-- `EXT1_C3_VAR` (R320). -/
def execExt1C3Var (e : Byte) (s : State) : Host.Outcome State Fault Refusal :=
  code [0x10, e] s

/-- `EXT1_G3` (R321). -/
def execExt1G3 (e : Byte) (s : State) : Host.Outcome State Fault Refusal :=
  code [0x10, e] s

/-- `C0_RSV2` (R238). -/
def execC0Rsv2 (b p1 : Byte) (s : State) : Host.Outcome State Fault Refusal :=
  code [b, p1] s

/-- `P16` (R239). -/
def execP16 (p1 p2 : Byte) (s : State) : Host.Outcome State Fault Refusal :=
  code [0x18, p1, p2] s

/-- `C0_RSV3` (R240). -/
def execC0Rsv3 (b p1 p2 : Byte) (s : State) : Host.Outcome State Fault Refusal :=
  code [b, p1, p2] s

/-- `G0` (R260). -/
def execG0 (b : Byte) (s : State) : Host.Outcome State Fault Refusal :=
  code [b] s

/-- `G1` (R262). -/
def execG1 (b : Byte) (s : State) : Host.Outcome State Fault Refusal :=
  code [b] s

/-- `CW0` (R274). -/
def execCw0 (s : State) : Host.Outcome State Fault Refusal :=
  code [0x80] s

/-- `CW1` (R274). -/
def execCw1 (s : State) : Host.Outcome State Fault Refusal :=
  code [0x81] s

/-- `CW2` (R274). -/
def execCw2 (s : State) : Host.Outcome State Fault Refusal :=
  code [0x82] s

/-- `CW3` (R274). -/
def execCw3 (s : State) : Host.Outcome State Fault Refusal :=
  code [0x83] s

/-- `CW4` (R274). -/
def execCw4 (s : State) : Host.Outcome State Fault Refusal :=
  code [0x84] s

/-- `CW5` (R274). -/
def execCw5 (s : State) : Host.Outcome State Fault Refusal :=
  code [0x85] s

/-- `CW6` (R274). -/
def execCw6 (s : State) : Host.Outcome State Fault Refusal :=
  code [0x86] s

/-- `CW7` (R274). -/
def execCw7 (s : State) : Host.Outcome State Fault Refusal :=
  code [0x87] s

/-- `CLW` (R275). -/
def execClw (p1 : Byte) (s : State) : Host.Outcome State Fault Refusal :=
  code [0x88, p1] s

/-- `DSW` (R276). -/
def execDsw (p1 : Byte) (s : State) : Host.Outcome State Fault Refusal :=
  code [0x89, p1] s

/-- `HDW` (R277). -/
def execHdw (p1 : Byte) (s : State) : Host.Outcome State Fault Refusal :=
  code [0x8A, p1] s

/-- `TGW` (R278). -/
def execTgw (p1 : Byte) (s : State) : Host.Outcome State Fault Refusal :=
  code [0x8B, p1] s

/-- `DLW` (R279). -/
def execDlw (p1 : Byte) (s : State) : Host.Outcome State Fault Refusal :=
  code [0x8C, p1] s

/-- `DLY` (R280). -/
def execDly (p1 : Byte) (s : State) : Host.Outcome State Fault Refusal :=
  code [0x8D, p1] s

/-- `DLC` (R281). -/
def execDlc (s : State) : Host.Outcome State Fault Refusal :=
  code [0x8E] s

/-- `RST` (R282). -/
def execRst (s : State) : Host.Outcome State Fault Refusal :=
  code [0x8F] s

/-- `SPA` (R283). -/
def execSpa (p1 p2 : Byte) (s : State) : Host.Outcome State Fault Refusal :=
  code [0x90, p1, p2] s

/-- `SPC` (R284). -/
def execSpc (p1 p2 p3 : Byte) (s : State) : Host.Outcome State Fault Refusal :=
  code [0x91, p1, p2, p3] s

/-- `SPL` (R285). -/
def execSpl (p1 p2 : Byte) (s : State) : Host.Outcome State Fault Refusal :=
  code [0x92, p1, p2] s

/-- `C1_RSV` (R296). -/
def execC1Rsv (r : ReservedCode) (s : State) : Host.Outcome State Fault Refusal :=
  code (r.code :: r.payload) s

/-- `SWA` (R286). -/
def execSwa (p1 p2 p3 p4 : Byte) (s : State) : Host.Outcome State Fault Refusal :=
  code [0x97, p1, p2, p3, p4] s

/-- `DF0` (R287). -/
def execDf0 (p1 p2 p3 p4 p5 p6 : Byte) (s : State) : Host.Outcome State Fault Refusal :=
  code [0x98, p1, p2, p3, p4, p5, p6] s

/-- `DF1` (R287). -/
def execDf1 (p1 p2 p3 p4 p5 p6 : Byte) (s : State) : Host.Outcome State Fault Refusal :=
  code [0x99, p1, p2, p3, p4, p5, p6] s

/-- `DF2` (R287). -/
def execDf2 (p1 p2 p3 p4 p5 p6 : Byte) (s : State) : Host.Outcome State Fault Refusal :=
  code [0x9A, p1, p2, p3, p4, p5, p6] s

/-- `DF3` (R287). -/
def execDf3 (p1 p2 p3 p4 p5 p6 : Byte) (s : State) : Host.Outcome State Fault Refusal :=
  code [0x9B, p1, p2, p3, p4, p5, p6] s

/-- `DF4` (R287). -/
def execDf4 (p1 p2 p3 p4 p5 p6 : Byte) (s : State) : Host.Outcome State Fault Refusal :=
  code [0x9C, p1, p2, p3, p4, p5, p6] s

/-- `DF5` (R287). -/
def execDf5 (p1 p2 p3 p4 p5 p6 : Byte) (s : State) : Host.Outcome State Fault Refusal :=
  code [0x9D, p1, p2, p3, p4, p5, p6] s

/-- `DF6` (R287). -/
def execDf6 (p1 p2 p3 p4 p5 p6 : Byte) (s : State) : Host.Outcome State Fault Refusal :=
  code [0x9E, p1, p2, p3, p4, p5, p6] s

/-- `DF7` (R287). -/
def execDf7 (p1 p2 p3 p4 p5 p6 : Byte) (s : State) : Host.Outcome State Fault Refusal :=
  code [0x9F, p1, p2, p3, p4, p5, p6] s

end Sys2Proof.Machine
end

