-- ==== Sys2Proof/Machine/Constructs.lean ====
section
/-! DEFINITION. The meanings of level A (41_packet_assembler.md R161 to R164). The move of `cidx` to the next
construct belongs to the loop of `Accept` (R160) and to `step`. -/

namespace Sys2Proof.Machine

/-- `PS b0 b1` (R161). -/
def execPs (b0 b1 : Byte) (s : State) : Host.Outcome State Fault Refusal :=
  live (packetStart b0 b1) s

/-- `PS! b0 b1` (R161): "only the append is conditional". -/
def execPsInvalid (_b0 _b1 : Byte) (s : State) : Host.Outcome State Fault Refusal :=
  live packetStartInvalid s

/-- `PD b0 b1` (R162). -/
def execPd (b0 b1 : Byte) (s : State) : Host.Outcome State Fault Refusal :=
  live (packetData b0 b1) s

/-- `PD! b0 b1` (R164): no effect. -/
def execPdInvalid (_b0 _b1 : Byte) (s : State) : Host.Outcome State Fault Refusal :=
  live id s

/-- `F1 b0 b1`, valid or not (R163): no effect. -/
def execF1 (_valid : Bool) (_b0 _b1 : Byte) (s : State) : Host.Outcome State Fault Refusal :=
  live id s

/-- `F2 b0 b1`, valid or not (R163): no effect. -/
def execF2 (_valid : Bool) (_b0 _b1 : Byte) (s : State) : Host.Outcome State Fault Refusal :=
  live id s

end Sys2Proof.Machine
end

