-- ==== Sys2Proof/Machine/Headers.lean ====
section
/-! DEFINITION. The meanings of level B (42_service_block_parser.md R192 to R196). -/

namespace Sys2Proof.Machine

/-- `PKTHDR` (30_encoding.md R93, R94; 41_packet_assembler.md R166, R168, R169). -/
def execPktHdr (seq : BitVec 2) (size : BitVec 6) (s : State) : Host.Outcome State Fault Refusal :=
  live (packetHeader seq size) s

/-- `SB_NULL` (R192), whatever its service number. -/
def execSbNull (_svc : BitVec 3) (s : State) : Host.Outcome State Fault Refusal :=
  live sbNull s

/-- `SB_SVC0` (R195). -/
def execSbSvc0 (size : BitVec 5) (s : State) : Host.Outcome State Fault Refusal :=
  live (sbSvc0 size) s

/-- `SB_STD` (R193, R196, R198). -/
def execSbStd (svc : BitVec 3) (size : BitVec 5) (s : State) : Host.Outcome State Fault Refusal :=
  live (sbStd svc size) s

/-- `SB_EXT` (R194 to R196, R198). -/
def execSbExt (size : BitVec 5) (svc : BitVec 6) (s : State) : Host.Outcome State Fault Refusal :=
  live (sbExt size svc) s

end Sys2Proof.Machine
end

