-- ==== Sys2Proof/Machine/Operations.lean ====
section
/-! DEFINITION. The meanings of level S (40_buffer_fanout.md R130 to R138, 41_packet_assembler.md R160, R166,
R172, 42_service_block_parser.md R190, R198, 70_reset_and_hazards.md R400). -/

namespace Sys2Proof.Machine

/-- `Allocate(type, capacity)` (R131). -/
def execAllocate (type : BufType) (capacity : Nat) (s : State) : Host.Outcome State Fault Refusal :=
  operation (fun t => let (h, t1) := allocate type capacity t; { t1 with ret := h.map .handle }) s

/-- `Append(h, v)` (R132). -/
def execAppend (h : Handle) (v : Element) (s : State) : Host.Outcome State Fault Refusal :=
  operation (append h v) s

/-- `SetTimestamp(h, t)` (R132). -/
def execSetTimestamp (h : Handle) (ts : Timestamp) (s : State) : Host.Outcome State Fault Refusal :=
  operation (setTimestamp h ts) s

/-- `AddReader(h)` (R133). -/
def execAddReader (h : Handle) (s : State) : Host.Outcome State Fault Refusal :=
  operation (addReader h) s

/-- `Release(h)` (R134). -/
def execRelease (h : Handle) (s : State) : Host.Outcome State Fault Refusal :=
  operation (release h) s

/-- `Dispatch(h, sinks)` (R136). -/
def execDispatch (h : Handle) (s : State) : Host.Outcome State Fault Refusal :=
  operation
    (fun t => let (r, t1) := dispatch h t; t1.andThen fun u => { u with ret := some (.bool r) }) s

/-- `Shutdown(sinks)` (R137). -/
def execShutdown (s : State) : Host.Outcome State Fault Refusal :=
  operation
    (fun t => let (r, t1) := shutdown t; t1.andThen fun u => { u with ret := some (.bool r) }) s

/-- `RegisterSink(s, consumes)` (R138). -/
def execRegisterSink (sink : Nat) (consumes : BufType) (s : State) : Host.Outcome State Fault Refusal :=
  hostOperation (registerSink sink consumes) s

/-- `Accept(inbuf)` (R160, R171). -/
def execAccept (inbuf : Handle) (s : State) : Host.Outcome State Fault Refusal :=
  hostOperation (acceptBuffer inbuf) s

/-- `Terminate()` (R172). -/
def execTerminate (s : State) : Host.Outcome State Fault Refusal :=
  hostOperation terminate s

/-- `Reset()` (R400, R401): the only way out of the halted state. -/
def execReset (pool : Bool) (s : State) : Host.Outcome State Fault Refusal :=
  .next (resetMachine pool s)

/-- `Flush()` (R166). -/
def execFlush (s : State) : Host.Outcome State Fault Refusal :=
  live flush s

/-- `ParseBlocks()` (R190). -/
def execParseBlocks (s : State) : Host.Outcome State Fault Refusal :=
  live parseBlocks s

/-- `ProcessBlock()` (R198). -/
def execProcessBlock (s : State) : Host.Outcome State Fault Refusal :=
  live processBlock s

end Sys2Proof.Machine
end

