-- ==== Sys2Proof/Machine/Dispatch.lean ====
section
/-! DEFINITION. The meaning of every instruction, one arm per constructor. -/

namespace Sys2Proof.Machine

def exec (i : Instr) (s : State) : Host.Outcome State Fault Refusal :=
  match i with
  | .ps b0 b1 => Sys2Proof.Machine.execPs b0 b1 s
  | .psInvalid b0 b1 => Sys2Proof.Machine.execPsInvalid b0 b1 s
  | .pd b0 b1 => Sys2Proof.Machine.execPd b0 b1 s
  | .pdInvalid b0 b1 => Sys2Proof.Machine.execPdInvalid b0 b1 s
  | .f1 valid b0 b1 => Sys2Proof.Machine.execF1 valid b0 b1 s
  | .f2 valid b0 b1 => Sys2Proof.Machine.execF2 valid b0 b1 s
  | .pktHdr seq code => Sys2Proof.Machine.execPktHdr seq code s
  | .sbNull svc => Sys2Proof.Machine.execSbNull svc s
  | .sbSvc0 size => Sys2Proof.Machine.execSbSvc0 size s
  | .sbStd svc size => Sys2Proof.Machine.execSbStd svc size s
  | .sbExt size ext => Sys2Proof.Machine.execSbExt size ext s
  | .nul => Sys2Proof.Machine.execNul s
  | .c0Unk1 code => Sys2Proof.Machine.execC0Unk1 code s
  | .etx => Sys2Proof.Machine.execEtx s
  | .bs => Sys2Proof.Machine.execBs s
  | .ff => Sys2Proof.Machine.execFf s
  | .cr => Sys2Proof.Machine.execCr s
  | .hcr => Sys2Proof.Machine.execHcr s
  | .ext1C20 e => Sys2Proof.Machine.execExt1C20 e s
  | .ext1C21 e x1 => Sys2Proof.Machine.execExt1C21 e x1 s
  | .ext1C22 e x1 x2 => Sys2Proof.Machine.execExt1C22 e x1 x2 s
  | .ext1C23 e x1 x2 x3 => Sys2Proof.Machine.execExt1C23 e x1 x2 x3 s
  | .ext1G2 e => Sys2Proof.Machine.execExt1G2 e s
  | .ext1C34 e x1 x2 x3 x4 => Sys2Proof.Machine.execExt1C34 e x1 x2 x3 x4 s
  | .ext1C35 e x1 x2 x3 x4 x5 => Sys2Proof.Machine.execExt1C35 e x1 x2 x3 x4 x5 s
  | .ext1C3Var e => Sys2Proof.Machine.execExt1C3Var e s
  | .ext1G3 e => Sys2Proof.Machine.execExt1G3 e s
  | .c0Rsv2 code p1 => Sys2Proof.Machine.execC0Rsv2 code p1 s
  | .p16 p1 p2 => Sys2Proof.Machine.execP16 p1 p2 s
  | .c0Rsv3 code p1 p2 => Sys2Proof.Machine.execC0Rsv3 code p1 p2 s
  | .g0 code => Sys2Proof.Machine.execG0 code s
  | .cw0 => Sys2Proof.Machine.execCw0 s
  | .cw1 => Sys2Proof.Machine.execCw1 s
  | .cw2 => Sys2Proof.Machine.execCw2 s
  | .cw3 => Sys2Proof.Machine.execCw3 s
  | .cw4 => Sys2Proof.Machine.execCw4 s
  | .cw5 => Sys2Proof.Machine.execCw5 s
  | .cw6 => Sys2Proof.Machine.execCw6 s
  | .cw7 => Sys2Proof.Machine.execCw7 s
  | .clw p1 => Sys2Proof.Machine.execClw p1 s
  | .dsw p1 => Sys2Proof.Machine.execDsw p1 s
  | .hdw p1 => Sys2Proof.Machine.execHdw p1 s
  | .tgw p1 => Sys2Proof.Machine.execTgw p1 s
  | .dlw p1 => Sys2Proof.Machine.execDlw p1 s
  | .dly p1 => Sys2Proof.Machine.execDly p1 s
  | .dlc => Sys2Proof.Machine.execDlc s
  | .rst => Sys2Proof.Machine.execRst s
  | .spa p1 p2 => Sys2Proof.Machine.execSpa p1 p2 s
  | .spc p1 p2 p3 => Sys2Proof.Machine.execSpc p1 p2 p3 s
  | .spl p1 p2 => Sys2Proof.Machine.execSpl p1 p2 s
  | .c1Rsv r => Sys2Proof.Machine.execC1Rsv r s
  | .swa p1 p2 p3 p4 => Sys2Proof.Machine.execSwa p1 p2 p3 p4 s
  | .df0 p1 p2 p3 p4 p5 p6 => Sys2Proof.Machine.execDf0 p1 p2 p3 p4 p5 p6 s
  | .df1 p1 p2 p3 p4 p5 p6 => Sys2Proof.Machine.execDf1 p1 p2 p3 p4 p5 p6 s
  | .df2 p1 p2 p3 p4 p5 p6 => Sys2Proof.Machine.execDf2 p1 p2 p3 p4 p5 p6 s
  | .df3 p1 p2 p3 p4 p5 p6 => Sys2Proof.Machine.execDf3 p1 p2 p3 p4 p5 p6 s
  | .df4 p1 p2 p3 p4 p5 p6 => Sys2Proof.Machine.execDf4 p1 p2 p3 p4 p5 p6 s
  | .df5 p1 p2 p3 p4 p5 p6 => Sys2Proof.Machine.execDf5 p1 p2 p3 p4 p5 p6 s
  | .df6 p1 p2 p3 p4 p5 p6 => Sys2Proof.Machine.execDf6 p1 p2 p3 p4 p5 p6 s
  | .df7 p1 p2 p3 p4 p5 p6 => Sys2Proof.Machine.execDf7 p1 p2 p3 p4 p5 p6 s
  | .g1 code => Sys2Proof.Machine.execG1 code s
  | .allocate type capacity => Sys2Proof.Machine.execAllocate type capacity s
  | .append h v => Sys2Proof.Machine.execAppend h v s
  | .setTimestamp h t => Sys2Proof.Machine.execSetTimestamp h t s
  | .addReader h => Sys2Proof.Machine.execAddReader h s
  | .release h => Sys2Proof.Machine.execRelease h s
  | .dispatch h => Sys2Proof.Machine.execDispatch h s
  | .shutdown => Sys2Proof.Machine.execShutdown s
  | .registerSink sink consumes => Sys2Proof.Machine.execRegisterSink sink consumes s
  | .accept inbuf => Sys2Proof.Machine.execAccept inbuf s
  | .terminate => Sys2Proof.Machine.execTerminate s
  | .reset pool => Sys2Proof.Machine.execReset pool s
  | .flush => Sys2Proof.Machine.execFlush s
  | .parseBlocks => Sys2Proof.Machine.execParseBlocks s
  | .processBlock => Sys2Proof.Machine.execProcessBlock s

end Sys2Proof.Machine
end

