-- ==== Sys2Proof/Machine/Fetch.lean ====
section
/-! DEFINITION. Where the next instruction stands, what the loop that owns the cursor does when it has no
instruction left, and what it does after each instruction (10_state.md R24; log 13). -/

namespace Sys2Proof.Machine

/-- Whether the instruction is an operation of a channel (00_scope.md R9 to R11, 30_encoding.md R118): the
others stand in the bytes of a buffer or are "called only from other rules". -/
def isChannelOp : Instr → Bool
  | .allocate _ _ | .append _ _ | .setTimestamp _ _ | .addReader _ | .release _ | .dispatch _
  | .shutdown | .registerSink _ _ | .accept _ | .terminate | .reset _ => true
  | _ => false

/-- The instruction the decoder reads, if it reads one. -/
def decoded : Decoded → Option Instr
  | .ok (i, _) => some i
  | .error _ => none

/-- The bytes at the cursor of the loop in progress, with the level they are read at; `none` where the loop
has no instruction left. A code that its block cuts short is completed with zeros, which the decoder never
takes (log 15). -/
def fetchBytes (s : State) : Option (Level × List Byte) :=
  match s.phase with
  | .host => none
  | .accept =>
    match s.inProgress with
    | .accept h n =>
      if 3 * s.cidx + 3 ≤ n then
        some (.construct,
          [inbufByte s h (3 * s.cidx), inbufByte s h (3 * s.cidx + 1), inbufByte s h (3 * s.cidx + 2)])
      else none
    | _ => none
  | .header => some (.packetHeader, [pktByte s 0])
  | .parse =>
    if s.pktLen.val - s.rd.val < 2 then none
    else some (.blockHeader, [pktByte s s.rd.val, pktByte s (s.rd.val + 1)])
  | .parsed => none
  | .block =>
    if s.rd.val < s.sbEnd.val then
      some (.code, pktBytes s s.rd.val s.sbEnd.val ++ List.replicate maxCodeLen 0)
    else none

/-- The instruction at the cursor of the loop in progress. -/
def fetch (s : State) : Option Instr :=
  match fetchBytes s with
  | none => none
  | some (l, bytes) => decoded (decode l s.cfg bytes)

/-- What the loop adds after an instruction: the loop of `Accept` moves to the next construct (R160), and
the packet header byte is followed by the block loop (R166). -/
def afterInstr (p : Phase) (s : State) : State :=
  match p with
  | .accept => s.andThen nextConstruct
  | .header => s.andThen enterParse
  | _ => s

/-- The rest of the operation that called `Flush`: `PS` appends its bytes and the loop of `Accept` moves on
(R160, R161), `Terminate` shuts down (R172). -/
def afterFlush (s : State) : State :=
  match s.inProgress with
  | .none => s
  | .terminate => endTerminate s
  | .accept h _ =>
    nextConstruct
      (if hdrValid (inbufByte s h (3 * s.cidx)) then
        appendPair (inbufByte s h (3 * s.cidx + 1)) (inbufByte s h (3 * s.cidx + 2)) s
      else s)

/-- What the loop in progress does when it has no instruction left: the last lines of `Accept` (R160), the
end of the block loop (R191), of `Flush` (R166), of `ProcessBlock` (R198). -/
def endOfLoop (s : State) : State :=
  match s.phase with
  | .host => s
  | .accept =>
    match s.inProgress with
    | .accept h _ => endAccept h s
    | _ => { s with phase := .host, inProgress := .none }
  | .header => s
  | .parse => stopParse s
  | .parsed => afterFlush (endFlush s)
  | .block => (endOfBytes s).andThen closeBlock

/-- The bytes of a table word as the service block of a packet: the packet header byte of a 10-byte packet,
the header of a block of seven bytes of service 1, the block, a padding byte; the decoder stands at the
first byte of the block and the output buffer is allocated (R190, R198). -/
def placeCode (bytes : List Byte) (s : State) : State :=
  let image := ([0x05, 0x27] ++ bytes).zipIdx
  openBlock
    { s with
      fatal := false
      pktBuf := image.foldl (fun m e => m.write e.2 e.1) s.pktBuf
      pktLen := cursor 10, rd := cursor 2
      sbSvc := 1, sbLen := 7, sbEnd := cursor 9, curSeq := 0
      mode := .dataWait, remaining := 0, accN := 0, extPhase := .code }

end Sys2Proof.Machine
end

