-- ==== Sys2Proof/Machine/Step.lean ====
section
/-! DEFINITION. One step: the next instruction of the loop in progress, or between operations the next
operation an agent has asked for (00_scope.md R6, R24; log 7, log 13). -/

namespace Sys2Proof.Machine

/-- The next operation of the agents. While the machine is halted only `Reset` has a step (R370). -/
def stepHost (s : State) : Host.Outcome State Fault Refusal :=
  match s.requests with
  | [] => if s.fatal then .fault .halted else .fault .idle
  | i :: rest =>
    if isChannelOp i then exec i { s with requests := rest } else .refused .notAChannelOperation

/-- The next instruction of the loop in progress, with what the loop adds after it; without one, the lines
after the loop. -/
def stepInside (s : State) : Host.Outcome State Fault Refusal :=
  match fetch s with
  | none => .next (endOfLoop s)
  | some i =>
    match exec i s with
    | .next t => .next (afterInstr s.phase t)
    | o => o

/-- One step of the machine. -/
def step (s : State) : Host.Outcome State Fault Refusal :=
  if s.fatal then stepHost s
  else if s.phase = .host then stepHost s
  else stepInside s

/-- The instruction with the bits of a table word, stored where `step` fetches its next instruction: at
`rd` inside a service block (log 16). -/
def State.withFetchWord (s : State) (nbits w : Nat) : State := placeCode (wordBytes nbits w) s

end Sys2Proof.Machine
end

