-- ==== Sys2Proof/Safety.lean ====
section
/-! DEFINITION. What counts as a sound state (the invariants of 10_state.md R39 and 20_memory.md R66), and
the terms the statements are written in. -/

namespace Sys2Proof.Machine

/-- R39 (c): a slot holds no more than its capacity, and is in use exactly when it has a reader. -/
def Slot.sound (p : Slot) : Bool :=
  decide (p.numElements ≤ p.maxNumElements) && (p.inUse == decide (1 ≤ p.readers))

/-- R39 (b), the decoder's part: it is at a code boundary with nothing collected. -/
abbrev State.decoderIdle (s : State) : Prop :=
  s.mode = .dataWait ∧ s.remaining = 0 ∧ s.accN = 0 ∧ s.extPhase = .code

/-- The invariant of R39 (a) to (d) with what R7 asks of the parameters, the canonical form of PKT and the
bound of R32. A halted machine
stands where the fatal condition stopped it (R370), so the part on the transients is asked of a machine that
is not halted. -/
structure State.Inv (s : State) : Prop where
  /-- what the spec asks of the parameters (00_scope.md R7, R92, R100, 45_c1_commands.md R273) -/
  params : s.cfg.admissible = true
  /-- `POOL_SLOTS` is at least 1 (00_scope.md R7) -/
  slotsExist : 1 ≤ s.pool.length
  /-- the canonical form of PKT -/
  memory : s.pktBuf.wf = true
  /-- R39 (a); `pkt.len ≤ 128` holds by its type -/
  evenLength : s.pktLen.val % 2 = 0
  /-- R39 (c) -/
  slots : ∀ p ∈ s.pool, p.sound = true
  /-- R39 (d) -/
  sinks : s.sinks.length ≤ s.cfg.maxSinks
  /-- R32 -/
  counters : ∀ k : Fin 17, s.cnt[k] ≤ counterMax s.cfg
  /-- R32: a counter is the number of occurrences since reset, saturated (`occurred` is the model's history,
  log 22) -/
  occurrences : ∀ k : Fin 17, s.cnt[k] = min s.occurred[k] (counterMax s.cfg)
  /-- R22: `zero_len_logged` says whether a zero-length packet has been reported (R167) -/
  zeroLen : s.zeroLenLogged = decide (1 ≤ s.occurred[0])
  /-- R39 (b): every instruction leaves the decoder idle -/
  idle : s.fatal = false → s.decoderIdle
  /-- R36, R39 (b): there is an output buffer only inside a service block -/
  noOut : s.fatal = false → s.phase ≠ .block → s.out = none
  /-- between operations no upstream call is being executed -/
  noCall : s.fatal = false → s.phase = .host → s.inProgress = .none

/-- Where the cursors may stand (R24, R25, R66, 42_service_block_parser.md R195): inside the packet, inside
the block, and the block is never of service 0. -/
structure State.CursorsInside (s : State) : Prop where
  header : s.fatal = false → s.phase = .header → 1 ≤ s.pktLen.val
  parse : s.fatal = false → s.phase = .parse → s.rd.val ≤ s.pktLen.val
  block : s.fatal = false → s.phase = .block →
    s.rd.val ≤ s.sbEnd.val ∧ s.sbEnd.val ≤ s.pktLen.val ∧ s.sbSvc ≠ 0

/-! ### Where an instruction stands -/

/-- The machine is not halted and stands at a code boundary with at least `n` bytes of the service block
ahead (43_decoder_c0.md R221, R223). -/
abbrev State.AtCode (s : State) (n : Nat) : Prop :=
  s.fatal = false ∧ s.mode = .dataWait ∧ s.rd.val + n ≤ s.sbEnd.val

/-- Slot `i`, holding `p`, is the output buffer and has room for a unit (10_state.md R36, R37). -/
abbrev State.OutSlot (s : State) (i : Nat) (p : Slot) : Prop :=
  s.out = some i ∧ s.pool[i]? = some p ∧ p.inUse = true ∧ p.numElements < p.maxNumElements

/-- Slot `i`, holding `p`, is in use, and the machine is not halted. -/
abbrev State.LiveSlot (s : State) (i : Nat) (p : Slot) : Prop :=
  s.fatal = false ∧ s.pool[i]? = some p ∧ p.inUse = true

/-- A handle that is "`NULL`, out of range, or names a slot with `in_use = 0`" (40_buffer_fanout.md R130). -/
def State.badHandle (s : State) (h : Handle) : Prop :=
  match h with
  | none => True
  | some i => ∀ p, s.pool[i]? = some p → p.inUse = false

/-- The parameters of the codes are admissible: every recognised C0 code is a single-byte code
(30_encoding.md R100), and the C1 tables agree with the rules (45_c1_commands.md R273). -/
abbrev State.codesAdmissible (s : State) : Prop :=
  (∀ b ∈ s.cfg.c0Known, b.toNat < 0x10) ∧ s.cfg.c1.admissible = true

/-- Every answer of the script comes from a sink that does at most what its duty allows: release the buffer
it was given (40_buffer_fanout.md R135, 70_reset_and_hazards.md R412). -/
abbrev State.dutifulSinks (s : State) : Prop := ∀ r ∈ s.replies, r.acts = [] ∨ r.acts = [.releaseGiven]

/-! ### What a code leaves -/

/-- `n` bytes of the block are consumed. -/
def State.consumed (n : Nat) (s : State) : State := { s with rd := cursor (s.rd.val + n) }

/-- `acc` with the payload bytes at its front (10_state.md R29). -/
def accWith (payload : List Byte) (acc : Vector Byte 6) : Vector Byte 6 :=
  Vector.ofFn fun k => (payload[k.val]?).getD acc[k]

/-- The decoder's registers after a multi-byte code of `n` bytes: `rd` past it, its tag in `cmd`, its payload
in `acc`, and the ending of `Complete()` (43_decoder_c0.md R225). -/
def State.afterCode (n : Nat) (cmd : Byte) (payload : List Byte) (s : State) : State :=
  { s with
    rd := cursor (s.rd.val + n), cmd := cmd, acc := accWith payload s.acc
    mode := .dataWait, remaining := 0, accN := 0, extPhase := .code }

/-- The unit of the body, tagged with the service of the block and the sequence number of the packet
(43_decoder_c0.md R220), appended to the slot `p` at index `i` of the pool; nothing else changes. -/
def State.withUnit (i : Nat) (p : Slot) (body : Body) (s : State) : State :=
  { s with
    pool := s.pool.set i
      { p with data := p.data ++ [.unit { svc := s.sbSvc, seq := s.curSeq, body := body }] } }

/-- The six C1 payload bytes' window definition, field by field as 45_c1_commands.md R287 writes it. -/
def windowDefinitionOf (b p1 p2 p3 p4 p5 p6 : Byte) : WindowDefinition :=
  { windowId := b.extractLsb 2 0
    visible := p1.extractLsb 5 5, rowLock := p1.extractLsb 4 4, columnLock := p1.extractLsb 3 3
    priority := p1.extractLsb 2 0
    relativePositioning := p2.extractLsb 7 7, anchorVertical := p2.extractLsb 6 0
    anchorHorizontal := p3.extractLsb 7 0
    anchorPoint := p4.extractLsb 7 4, rowCount := p4.extractLsb 3 0
    columnCount := p5.extractLsb 5 0
    windowStyle := p6.extractLsb 5 3, penStyle := p6.extractLsb 2 0 }

/-- The record of a code of which the block holds only the first `k` bytes: the tag, the mode and the bytes
still needed at the end of the block (43_decoder_c0.md R223, R224, R226, R237, 46_extended_codes.md R311). -/
def cutRecord (bytes : List Byte) (k : Nat) : Event :=
  let b := bytes.headD 0
  if b = 0x10 then
    if k = 1 then .decodeTruncated 0x10 .extendedPending 1
    else .decodeTruncated (bytes.getD 1 0) .extendedPending (bytes.length - k)
  else if b.toNat < 0x20 then .decodeTruncated b .c0Pending (bytes.length - k)
  else .decodeTruncated b .c1Pending (bytes.length - k)

/-- The tag left in `cmd` by a code of which the block holds only the first `k` bytes. -/
def cutTag (bytes : List Byte) (k : Nat) : Byte :=
  if bytes.headD 0 = 0x10 ∧ 2 ≤ k then bytes.getD 1 0 else bytes.headD 0

/-- The payload bytes kept of a code of which the block holds only the first `k` bytes; the extra bytes of
an extended code are discarded (10_state.md R29). -/
def cutPayload (bytes : List Byte) (k : Nat) : List Byte :=
  if bytes.headD 0 = 0x10 then [] else (bytes.take k).drop 1

/-- Whether a code yields a unit, kind by kind (42_service_block_parser.md R197; R236, R238, R240, R296, R320
yield none); `known` is `C0_KNOWN`. -/
def yieldsUnit (known : List Byte) : Instr → Bool
  | .nul => known.contains 0x00
  | .etx => known.contains 0x03
  | .bs => known.contains 0x08
  | .ff => known.contains 0x0C
  | .cr => known.contains 0x0D
  | .hcr => known.contains 0x0E
  | .c0Unk1 code => known.contains code
  | .c0Rsv2 _ _ | .c0Rsv3 _ _ _ | .c1Rsv _ | .ext1C3Var _ => false
  | i => i.level == .code

/-- There is no room for a unit: no output buffer, or one that is full. -/
abbrev State.noRoom (s : State) : Prop :=
  s.out = none ∨ ∃ i p, s.out = some i ∧ s.pool[i]? = some p ∧ p.inUse = true ∧
    p.numElements = p.maxNumElements

/-- How many `EV_NO_SINKS` a stream of the diagnostic channel holds. -/
def noSinksEvents (d : List DiagRecord) : Nat :=
  d.countP fun r =>
    match r with
    | .event _ .noSinks => true
    | _ => false

/-! ### What the parser and the assembler leave -/

/-- Where a service block of service `svc` and declared size `size`, whose header has `k` bytes, begins:
the header is consumed, the block is clamped to the packet, and a clamp is logged
(42_service_block_parser.md R190, R196). -/
def State.atBlock (k : Nat) (svc : BitVec 6) (size : BitVec 5) (s : State) : State :=
  let avail := s.pktLen.val - (s.rd.val + k)
  let s1 := if avail < size.toNat then raise (.sbLenMismatch svc size avail) s else s
  { s1 with
    rd := cursor (s.rd.val + k), sbSvc := svc, sbLen := size
    sbEnd := cursor (s.rd.val + k + min size.toNat avail) }

/-- What a Flush that finds nothing assembled leaves (41_packet_assembler.md R166, R167). -/
def State.afterEmptyFlush (s : State) : State :=
  { (if s.firstFlushDone = true then { raise .zeroLenPkt s with zeroLenLogged := true } else s) with
    firstFlushDone := true, pktLen := 0, phase := phaseAfterFlush s }

/-- The `accept` calls of a Dispatch: every sink of the registry, in registration order, with the same
buffer (40_buffer_fanout.md R136, R139). -/
def acceptCalls (sinks : List SinkEntry) (buf : Nat) (ts : Timestamp) (elements : List Element) :
    List SinkCall :=
  sinks.zipIdx.map fun e => .accept e.2 e.1.sink buf ts elements

/-- The `terminate` calls of a Shutdown (R137). -/
def terminateCalls (sinks : List SinkEntry) : List SinkCall :=
  sinks.zipIdx.map fun e => .terminate e.2 e.1.sink

/-- The answers to the next `n` calls: the script's, and where it is too short those of the free values
(00_scope.md R10, U18, log 8). -/
def State.answers (n : Nat) (s : State) : List Reply :=
  s.replies.take n ++ (List.range (n - s.replies.length)).map fun k =>
    { success := Config.sinkAnswer (s.sinkTick + k)
      acts := if Config.sinkReleases (s.sinkTick + k) then [.releaseGiven] else [] }

/-- The state after `n` answers of the environment: the script is used up so far, and where it is too short
the free values have answered. -/
def State.answered (n : Nat) (s : State) : State :=
  { s with replies := s.replies.drop n, sinkTick := s.sinkTick + (n - s.replies.length) }

/-- How many of the answers came with a release of the buffer. -/
def releasesIn (script : List Reply) : Nat := script.countP fun r => decide (r.acts = [.releaseGiven])

/-- The answer of all the sinks together. -/
def allSucceed (script : List Reply) : Bool := script.all fun r => r.success

/-- The shutdown report, figure by figure as 60_exceptions.md R392 writes it. -/
def reportOfCounters (s : State) : Report :=
  { unknownCommands :=
      counterOf s 8 + counterOf s 10 + counterOf s 11 + counterOf s 12 + counterOf s 13
    p16Occurrences := counterOf s 9
    lengthMismatches := counterOf s 3
    ambiguousStyles := counterOf s 15
    ambiguousServices := (List.range' 1 63).filter fun k => s.ambiguous[k - 1]?.getD false
    counters := (List.range' 1 17).map (counterOf s) }

/-! ### Runs -/

/-- `n` steps of the machine; `none` where one of them is a fault or a refusal. -/
def runSteps : Nat → State → Option State
  | 0, s => some s
  | n + 1, s =>
    match step s with
    | .next t => runSteps n t
    | _ => none

/-- The instructions one after the other; `none` where one of them is a fault or a refusal. -/
def execAll : List Instr → State → Option State
  | [], s => some s
  | i :: rest, s =>
    match exec i s with
    | .next t => execAll rest t
    | _ => none

/-- A raw caption construct of an input buffer: its three bytes (20_memory.md R61). -/
structure RawConstruct where
  hdr : Byte
  b0 : Byte
  b1 : Byte
deriving DecidableEq, Repr

/-- The elements of an input buffer that holds the constructs (R61). -/
def inbufOf (cs : List RawConstruct) : List Element :=
  cs.flatMap fun c => [.byte c.hdr, .byte c.b0, .byte c.b1]

/-- The bytes that the valid packet-data constructs among them carry, in order (41_packet_assembler.md
R162, 20_memory.md R67). -/
def packetDataBytes (t : Tags) (cs : List RawConstruct) : List Byte :=
  cs.flatMap fun c => if hdrTag c.hdr = t.pktData ∧ hdrValid c.hdr = true then [c.b0, c.b1] else []

/-! ### What the classifier can reach -/

/-- The state without the style registers, the diagnostic counters and stream, and `STYLE_CLASS`: what
47_style_classifier.md R343 says is the same whatever the classifier state. -/
def State.withoutDiagnosis (s : State) : State :=
  { s with
    style := Vector.replicate 63 .unset, ambiguous := Vector.replicate 63 false
    cnt := Vector.replicate 17 0, occurred := Vector.replicate 17 0, diag := []
    cfg := { s.cfg with styleClass := [] } }

/-- An outcome with the next state so reduced. -/
def withoutDiagnosis : Host.Outcome State Fault Refusal → Host.Outcome State Fault Refusal
  | .next s => .next s.withoutDiagnosis
  | .fault f => .fault f
  | .refused r => .refused r

end Sys2Proof.Machine
end

