-- ==== Sys2Proof/Certificates/Slice0/Obligations.lean ====
section
/-! DEFINITION. The statements for the provers. Their terms stand in Sys2Proof/Safety.lean. -/

section Statements

open Sys2Proof Sys2Proof.Machine

/-! ### Encoding -/

/-- For every four different tags, whatever the C1 tables, and every well-formed instruction of levels A, B and
C, decoding its encoding gives it back, whatever bytes follow (30_encoding.md R90 to R115). -/
def Obligations.DecodeOfEncodeIsIdentity : Prop :=
  ∀ (p : Params) (i : Instr) (rest : List Byte), p.tags.distinct = true → i.wf p.c1 = true →
    i.level ≠ .operation → decode i.level p (encode p.tags i ++ rest) = .ok (i, rest)

/-- "every byte string has exactly one decoding" (70_reset_and_hazards.md R410; 30_encoding.md R98, R99,
R113): under admissible C1 tables, seven bytes or more begin with exactly one code, and its encoding is the
bytes it was read from. -/
def Obligations.EveryByteStringHasOneCode : Prop :=
  ∀ (p : Params) (bytes : List Byte), p.c1.admissible = true → maxCodeLen ≤ bytes.length →
    ∃ i rest, decode .code p bytes = .ok (i, rest) ∧ i.wf p.c1 = true ∧ i.level = .code ∧
      encode p.tags i ++ rest = bytes ∧ (encode p.tags i).length = i.tableLength ∧
      ∀ j rest', j.wf p.c1 = true → j.level = .code → encode p.tags j ++ rest' = bytes →
        j = i ∧ rest' = rest

/-- A few words written out from the encodings of the spec: the constructs of 00_scope.md R16, a packet
header, the block headers of 42_service_block_parser.md R192 to R195, and the codes of the worked examples of
43_decoder_c0.md R239, 45_c1_commands.md R285, R287 and 46_extended_codes.md R313. -/
def Obligations.SpecWordsDecode : Prop :=
  decode .construct defaultParams [0xFE, 0x40, 0x21] = .ok (.ps 0x40 0x21, []) ∧
  decode .construct defaultParams [0xFB, 0x00, 0x00] = .ok (.pdInvalid 0x00 0x00, []) ∧
  decode .packetHeader defaultParams [0xD0] = .ok (.pktHdr 3 0x10, []) ∧
  decode .blockHeader defaultParams [0xE0, 0x21] = .ok (.sbNull 7, [0x21]) ∧
  decode .blockHeader defaultParams [0x10, 0x41] = .ok (.sbSvc0 16, [0x41]) ∧
  decode .blockHeader defaultParams [0x45, 0x41] = .ok (.sbStd 2 5, [0x41]) ∧
  decode .blockHeader defaultParams [0xE2, 0x0A] = .ok (.sbExt 2 10, []) ∧
  decode .code defaultParams [0x18, 0x4E, 0x2D] = .ok (.p16 0x4E 0x2D, []) ∧
  decode .code defaultParams [0x7F] = .ok (.g0 0x7F, []) ∧
  decode .code defaultParams [0x92, 0x05, 0x0A] = .ok (.spl 0x05 0x0A, []) ∧
  decode .code defaultParams [0x99, 0x38, 0x4A, 0x64, 0x2E, 0x1F, 0x11] =
    .ok (.df1 0x38 0x4A 0x64 0x2E 0x1F 0x11, []) ∧
  decode .code defaultParams [0x10, 0x08, 0xFF, 0x41] = .ok (.ext1C21 0x08 0xFF, [0x41])

/-- The selection of the level-A operation from `(tag, valid)`, `valid` being bit 2 of the header byte and
`tag` its bits 1:0 (30_encoding.md R91, R92). -/
def Obligations.ConstructSelection : Prop :=
  ∀ (p : Params) (hdr b0 b1 : Byte) (rest : List Byte), p.tags.distinct = true →
    let t := p.tags
    let tag : BitVec 2 := hdr.extractLsb 1 0
    let d := decode .construct p (hdr :: b0 :: b1 :: rest)
    (tag = t.pktStart → hdr.getLsbD 2 = true → d = .ok (.ps b0 b1, rest)) ∧
    (tag = t.pktStart → hdr.getLsbD 2 = false → d = .ok (.psInvalid b0 b1, rest)) ∧
    (tag = t.pktData → hdr.getLsbD 2 = true → d = .ok (.pd b0 b1, rest)) ∧
    (tag = t.pktData → hdr.getLsbD 2 = false → d = .ok (.pdInvalid b0 b1, rest)) ∧
    (tag = t.field1 → d = .ok (.f1 (hdr.getLsbD 2) b0 b1, rest)) ∧
    (tag = t.field2 → d = .ok (.f2 (hdr.getLsbD 2) b0 b1, rest))

/-- Ignored bits "are neither checked nor copied into the unit: a command with such a bit set decodes
exactly as with it clear" (30_encoding.md R119): bits 7:3 of a construct header, 7:6 of an extended header
byte, and the ignored bits of SPC, SPL and DefineWindow. -/
def Obligations.IgnoredBitsChangeNothing : Prop :=
  (∀ (p : Params) (h h' b0 b1 : Byte) (rest : List Byte), h.extractLsb 2 0 = h'.extractLsb 2 0 →
    decode .construct p (h :: b0 :: b1 :: rest) = decode .construct p (h' :: b0 :: b1 :: rest)) ∧
  (∀ (p : Params) (h e e' : Byte) (rest : List Byte), h.extractLsb 7 5 = 7#3 → h.extractLsb 4 0 ≠ 0#5 →
    e.extractLsb 5 0 = e'.extractLsb 5 0 →
    decode .blockHeader p (h :: e :: rest) = decode .blockHeader p (h :: e' :: rest)) ∧
  (∀ p1 p2 p3 p3' : Byte, p3.extractLsb 5 0 = p3'.extractLsb 5 0 →
    penColor p1 p2 p3 = penColor p1 p2 p3') ∧
  (∀ p1 p1' p2 p2' : Byte, p1.extractLsb 3 0 = p1'.extractLsb 3 0 →
    p2.extractLsb 5 0 = p2'.extractLsb 5 0 → penLocation p1 p2 = penLocation p1' p2') ∧
  (∀ b p1 p1' p2 p3 p4 p5 p5' p6 p6' : Byte, p1.extractLsb 5 0 = p1'.extractLsb 5 0 →
    p5.extractLsb 5 0 = p5'.extractLsb 5 0 → p6.extractLsb 5 0 = p6'.extractLsb 5 0 →
    windowDefinition b p1 p2 p3 p4 p5 p6 = windowDefinition b p1' p2 p3 p4 p5' p6')

/-! ### The step, the halt, reset -/

/-- A step runs the decoded instruction: the operation an agent has asked for; inside an operation the
construct, packet header, block header or code at the cursor, with what the loop adds after it (00_scope.md
R6, 10_state.md R24; the fields that say which loop runs are the model's, log 7, log 13, log 15). -/
def Obligations.StepRunsDecodedInstruction : Prop :=
  (∀ (s : State) (i : Instr) (rest : List Instr), s.fatal = true ∨ s.phase = .host →
    s.requests = i :: rest → isChannelOp i = true → step s = exec i { s with requests := rest }) ∧
  (∀ (s t : State) (h n : Nat) (i : Instr), s.fatal = false → s.phase = .accept →
    s.inProgress = .accept h n → 3 * s.cidx + 3 ≤ n →
    decode .construct s.cfg
      [inbufByte s h (3 * s.cidx), inbufByte s h (3 * s.cidx + 1), inbufByte s h (3 * s.cidx + 2)] =
        .ok (i, []) →
    exec i s = .next t → step s = .next (if t.fatal then t else { t with cidx := t.cidx + 1 })) ∧
  (∀ (s t : State) (i : Instr), s.fatal = false → s.phase = .header →
    decode .packetHeader s.cfg [pktByte s 0] = .ok (i, []) →
    exec i s = .next t → step s = .next (if t.fatal then t else { t with rd := 1, phase := .parse })) ∧
  (∀ (s : State) (i : Instr) (rest : List Byte), s.fatal = false → s.phase = .parse →
    2 ≤ s.pktLen.val - s.rd.val →
    decode .blockHeader s.cfg [pktByte s s.rd.val, pktByte s (s.rd.val + 1)] = .ok (i, rest) →
    step s = exec i s) ∧
  (∀ (s : State) (i : Instr), s.fatal = false → s.phase = .block → s.cfg.c1.admissible = true →
    i.wf s.cfg.c1 = true → i.level = .code → s.rd.val < s.sbEnd.val →
    (encode s.cfg.tags i).take (s.sbEnd.val - s.rd.val) =
      (pktBytes s s.rd.val s.sbEnd.val).take (encode s.cfg.tags i).length →
    step s = exec i s)

/-- "Once `fatal = 1` no operation of DTVCC-FD has a step; only reset clears it" (10_state.md R34,
60_exceptions.md R370). -/
def Obligations.HaltedUntilReset : Prop :=
  ∀ (i : Instr) (s : State), s.fatal = true →
    ((∀ pool, i ≠ .reset pool) → exec i s = .fault .halted) ∧
    (∀ pool, i = .reset pool → ∃ t, exec i s = .next t ∧ t.fatal = false)

/-- `Reset()` (70_reset_and_hazards.md R400), line by line; the pool line where it is executed (R401). That an
operand says whether it is executed, and that the pool keeps everything where it is not, is DEDUCED from R401
(log 6); `occurred` is the model's (log 22). -/
def Obligations.ResetClearsState : Prop :=
  ∀ (pool : Bool) (s : State), ∃ t, exec (.reset pool) s = .next t ∧
    t.pktLen.val = 0 ∧ t.firstFlushDone = false ∧ t.zeroLenLogged = false ∧ t.curTs = .none ∧
    t.mode = .dataWait ∧ t.remaining = 0 ∧ t.cmd = 0 ∧ t.extPhase = .code ∧ t.accN = 0 ∧
    t.lastSeqValid = false ∧ (∀ k : Fin 63, t.style[k] = .unset) ∧ (∀ k : Fin 63, t.ambiguous[k] = false) ∧
    (∀ k : Fin 17, t.cnt[k] = 0) ∧ (∀ k : Fin 17, t.occurred[k] = 0) ∧
    t.fatal = false ∧ t.terminated = false ∧ t.out = none ∧ t.sinks = [] ∧
    t.pool.length = s.pool.length ∧ (pool = true → ∀ p ∈ t.pool, p.inUse = false) ∧
    (pool = false → t.pool = s.pool)

/-- The reset values the spec gives (10_state.md R44). -/
def Obligations.ResetStateValues : Prop :=
  State.reset.pktLen.val = 0 ∧ State.reset.firstFlushDone = false ∧ State.reset.zeroLenLogged = false ∧
  State.reset.curTs = .none ∧ State.reset.mode = .dataWait ∧ State.reset.remaining = 0 ∧
  State.reset.cmd = 0 ∧ State.reset.extPhase = .code ∧ State.reset.accN = 0 ∧
  State.reset.lastSeqValid = false ∧ (∀ k : Fin 63, State.reset.style[k] = .unset) ∧
  (∀ k : Fin 63, State.reset.ambiguous[k] = false) ∧ (∀ k : Fin 17, State.reset.cnt[k] = 0) ∧
  State.reset.fatal = false ∧ State.reset.terminated = false ∧ State.reset.out = none ∧
  (∀ p ∈ State.reset.pool, p.inUse = false) ∧ State.reset.sinks = []

/-- The invariants hold after reset (10_state.md R39); that the parameters do rests on the values the model
gives the open ones (log 3). -/
def Obligations.InvariantsHoldAtReset : Prop := State.reset.Inv ∧ State.reset.CursorsInside

/-- Every step keeps the invariant of 10_state.md R39 (a) to (d), what 00_scope.md R7 asks of the parameters,
the canonical form of PKT and the bound of the counters (R32), from every state that has it. -/
def Obligations.StepKeepsInvariant : Prop := ∀ s t : State, s.Inv → step s = .next t → t.Inv

/-- Every step keeps the cursors inside the packet and the block, and the block off service 0
(10_state.md R24, 20_memory.md R66, 42_service_block_parser.md R195 (c)), from every state that has them there
and has the invariant of R39 (`StepKeepsInvariant`), whose clause on the idle decoder it needs. -/
def Obligations.StepKeepsCursorsInside : Prop :=
  ∀ s t : State, s.Inv → s.CursorsInside → step s = .next t → t.CursorsInside

/-- 10_state.md R39 (e), (f): but for Reset, no instruction clears a flag that is set or lowers a counter;
and the streams of the diagnostic and downstream channels only grow. -/
def Obligations.FlagsAndCountersOnlyGrow : Prop :=
  ∀ (i : Instr) (s t : State), (∀ pool, i ≠ .reset pool) → exec i s = .next t →
    (s.firstFlushDone = true → t.firstFlushDone = true) ∧
    (s.zeroLenLogged = true → t.zeroLenLogged = true) ∧
    (s.lastSeqValid = true → t.lastSeqValid = true) ∧
    (∀ k : Fin 63, s.ambiguous[k] = true → t.ambiguous[k] = true) ∧
    (s.terminated = true → t.terminated = true) ∧
    (∀ k : Fin 17, s.cnt[k] ≤ t.cnt[k]) ∧ (∀ k : Fin 17, s.occurred[k] ≤ t.occurred[k]) ∧
    s.diag <+: t.diag ∧ s.sinkCalls <+: t.sinkCalls

/-- No instruction changes a parameter ("process-wide immutable constant tables", 10_state.md R45) or the
number of pool slots ("fixed-size table by design, not growable", R37). -/
def Obligations.ParametersAndPoolSizeAreFixed : Prop :=
  ∀ (i : Instr) (s t : State), exec i s = .next t → t.cfg = s.cfg ∧ t.pool.length = s.pool.length

/-! ### Events -/

/-- The event mechanism (60_exceptions.md R351 to R353, 10_state.md R32): the counter of the event, and no
other, goes up by one and saturates; one record is appended, verbose where there is no limit or the counter so
reached is within it, and of the zero-length event where `zero_len_logged` is clear (41_packet_assembler.md
R167); nothing else changes but the model's history `occurred`; only three events have a limit. In a state with
the invariant, and so with a `CNT_W` whose saturated counter is above every limit (DEDUCED, log 22), of a limited
event the first `limit` occurrences since reset are verbose and no later one (R351, R169, 43_decoder_c0.md R239);
and so from a counter at 0 on. -/
def Obligations.EventMechanism : Prop :=
  (∀ (e : Event) (s : State),
    let n := if counterOf s e.code < 2 ^ s.cfg.cntW - 1 then counterOf s e.code + 1 else counterOf s e.code
    1 ≤ e.code ∧ e.code ≤ 17 ∧ counterOf (raise e s) e.code = n ∧
    occurrencesOf (raise e s) e.code = occurrencesOf s e.code + 1 ∧
    (∀ k, 1 ≤ k → k ≠ e.code →
      counterOf (raise e s) k = counterOf s k ∧ occurrencesOf (raise e s) k = occurrencesOf s k) ∧
    (raise e s).diag =
      s.diag ++ [.event (if e.code = 1 then !s.zeroLenLogged
        else match eventLimit s.cfg e with
          | none => true
          | some limit => decide (n ≤ limit)) e] ∧
    raise e s =
      { s with cnt := (raise e s).cnt, occurred := (raise e s).occurred, diag := (raise e s).diag }) ∧
  (∀ (cfg : Params) (e : Event),
    eventLimit cfg e =
      if e.code = 1 then some 1 else if e.code = 3 then some 5
      else if e.code = 9 then some cfg.p16LogLimit else none) ∧
  (∀ (e : Event) (s : State) (limit : Nat), s.Inv → eventLimit s.cfg e = some limit →
    (raise e s).diag = s.diag ++ [.event (decide (occurrencesOf s e.code + 1 ≤ limit)) e]) ∧
  (∀ (e : Event) (s : State) (n limit : Nat), eventLimit s.cfg e = some limit → e.code ≠ 1 →
    counterOf s e.code = 0 → limit < 2 ^ s.cfg.cntW - 1 →
    ((raise e)^[n + 1] s).diag.getLast? = some (.event (decide (n + 1 ≤ limit)) e))

/-! ### The assembler -/

/-- `PD` (41_packet_assembler.md R162): the two bytes are appended at `pkt.len`, in order, every other byte
of PKT and all other state unchanged; where they do not fit, `EV_PKT_OVERFLOW` and nothing else. -/
def Obligations.PacketDataAppends : Prop :=
  (∀ (s : State) (b0 b1 : Byte), s.fatal = false → s.pktBuf.wf = true → s.pktLen.val + 2 ≤ 128 →
    ∃ t, exec (.pd b0 b1) s = .next t ∧ t.pktLen.val = s.pktLen.val + 2 ∧
      pktByte t s.pktLen.val = b0 ∧ pktByte t (s.pktLen.val + 1) = b1 ∧
      (∀ a, a ≠ s.pktLen.val → a ≠ s.pktLen.val + 1 → pktByte t a = pktByte s a) ∧
      t.pktBuf.wf = true ∧ t = { s with pktBuf := t.pktBuf, pktLen := t.pktLen }) ∧
  (∀ (s : State) (b0 b1 : Byte), s.fatal = false → 128 < s.pktLen.val + 2 →
    exec (.pd b0 b1) s = .next (raise (.pktOverflow b0 b1) s))

/-- `F1` and `F2`, valid or not, and `PD!` have "no effect on any state of DTVCC-FD" (R163, R164). -/
def Obligations.ConstructsWithoutEffect : Prop :=
  ∀ (s : State) (v : Bool) (b0 b1 : Byte), s.fatal = false →
    exec (.f1 v b0 b1) s = .next s ∧ exec (.f2 v b0 b1) s = .next s ∧ exec (.pdInvalid b0 b1) s = .next s

/-- `PS` and `PS!` (R161): a Flush, and for the valid one the two bytes at 0 and 1; "the flush and the reset
happen whether or not the construct is valid; only the append is conditional". A fatal condition of the
Flush ends them (60_exceptions.md R370). -/
def Obligations.PacketStartFlushes : Prop :=
  ∀ (s u : State) (b0 b1 : Byte), s.fatal = false → exec .flush s = .next u →
    exec (.psInvalid b0 b1) s = .next u ∧
    (u.fatal = true → exec (.ps b0 b1) s = .next u) ∧
    (u.fatal = false → u.pktBuf.wf = true → ∃ t, exec (.ps b0 b1) s = .next t ∧
      pktByte t 0 = b0 ∧ pktByte t 1 = b1 ∧ t.pktLen.val = 2 ∧
      (∀ a, 2 ≤ a → pktByte t a = pktByte u a) ∧
      t = { u with pktBuf := t.pktBuf, pktLen := t.pktLen })

/-- A Flush that finds nothing assembled (R166, R167), and `PS` and `PS!` on an empty packet (R161): silent
the first time, `EV_ZERO_LEN_PKT` later; `last_seq` and PKT are not touched by the Flush. Every such Flush but
the very first is recorded, and of these records only the first is verbose (R167 (b)), whatever `CNT_W`. The
phase the Flush leaves is the model's (log 13). -/
def Obligations.FlushOfEmptyPacket : Prop :=
  (∀ (s : State) (b0 b1 : Byte), s.fatal = false → s.pktLen.val = 0 →
    exec .flush s = .next s.afterEmptyFlush ∧ exec (.psInvalid b0 b1) s = .next s.afterEmptyFlush ∧
    exec (.ps b0 b1) s =
      .next { s.afterEmptyFlush with pktBuf := (s.pktBuf.write 0 b0).write 1 b1, pktLen := 2 }) ∧
  (∀ (s : State) (n : Nat), s.fatal = false → s.pktLen.val = 0 →
    s.firstFlushDone = false → s.zeroLenLogged = false →
    ∃ t u v, execAll [.flush] s = some t ∧ t.diag = s.diag ∧
      execAll [.flush] t = some u ∧ u.diag = s.diag ++ [.event true .zeroLenPkt] ∧
      execAll (List.replicate n .flush) u = some v ∧
      v.diag = u.diag ++ List.replicate n (.event false .zeroLenPkt) ∧
      occurrencesOf v 1 = occurrencesOf s 1 + 1 + n)

/-- A Flush of a packet (R166): the packet header byte at 0, then the block loop, then the assembler is
reset; a fatal condition of the block loop ends it. -/
def Obligations.FlushOfPacket : Prop :=
  ∀ s u v : State, s.fatal = false → s.pktLen.val ≠ 0 →
    exec (.pktHdr ((pktByte s 0).extractLsb 7 6) ((pktByte s 0).extractLsb 5 0))
      { s with phase := .header } = .next u →
    exec .parseBlocks u = .next v →
    exec .flush s =
      .next (if v.fatal then v
        else { v with firstFlushDone := true, pktLen := 0, phase := phaseAfterFlush v })

/-- The packet header byte (30_encoding.md R93, R94, 41_packet_assembler.md R166, R168, R169): `cur_seq`,
the continuity check, which takes the number seen, and the check of the declared size. -/
def Obligations.PacketHeaderChecks : Prop :=
  ∀ (s : State) (seq : BitVec 2) (size : BitVec 6), s.fatal = false →
    let s1 := { s with curSeq := seq }
    let s2 :=
      if s.lastSeqValid = true ∧ seq ≠ s.lastSeq + 1 then
        raise (.seqDiscontinuity (s.lastSeq + 1) seq) s1
      else s1
    let s3 := { s2 with lastSeq := seq, lastSeqValid := true }
    let declared := if size = 0 then 128 else 2 * size.toNat
    exec (.pktHdr seq size) s =
      .next (if declared = s.pktLen.val then s3
        else raise (.pktLenMismatch declared s.pktLen.val) s3)

/-! ### The service-block parser -/

/-- `SB_NULL` (42_service_block_parser.md R192), whatever its service number, ends the parse with `rd` on the
header byte and nothing logged; the block loop ends at once on such a byte, or with fewer than 2 bytes left
(R190, R191). -/
def Obligations.ParseEnds : Prop :=
  (∀ (s : State) (svc : BitVec 3), s.fatal = false →
    exec (.sbNull svc) s = .next { s with phase := .parsed }) ∧
  (∀ s : State, s.fatal = false → s.pktLen.val - 1 < 2 ∨ (pktByte s 1).extractLsb 4 0 = 0#5 →
    exec .parseBlocks s = .next { s with rd := 1, phase := .parsed })

/-- Service number 0 with a non-zero size (R195), from a standard header or an extended byte: `EV_SVC0`, and
the rest of the packet is abandoned. -/
def Obligations.ServiceZeroAbandonsPacket : Prop :=
  ∀ (s : State) (size : BitVec 5), s.fatal = false → size ≠ 0 →
    exec (.sbSvc0 size) s = .next { raise (.svc0 size) s with rd := s.pktLen, phase := .parsed } ∧
    exec (.sbExt size 0) s =
      .next { raise (.svc0 size) (raise (.extSvcIllegal 0) s) with rd := s.pktLen, phase := .parsed }

/-- `SB_STD` (R193, R196): one header byte is consumed, the block is clamped to the packet, and it is
processed. -/
def Obligations.StandardBlockIsProcessed : Prop :=
  ∀ (s : State) (svc : BitVec 3) (size : BitVec 5), s.fatal = false → svc ≠ 0 → svc ≠ 7 → size ≠ 0 →
    s.rd.val + 1 ≤ s.pktLen.val →
    ∃ t, exec .processBlock (s.atBlock 1 (svc.setWidth 6) size) = .next t ∧
      exec (.sbStd svc size) s = .next t

/-- `SB_EXT` with a service number other than 0 (R194, R196): two header bytes are consumed; a number below
7 is logged and its block decoded like any other. -/
def Obligations.ExtendedBlockIsProcessed : Prop :=
  ∀ (s : State) (size : BitVec 5) (svc : BitVec 6), s.fatal = false → size ≠ 0 → svc ≠ 0 →
    s.rd.val + 2 ≤ s.pktLen.val →
    ∃ t, exec .processBlock
        ((if svc.toNat < 7 then raise (.extSvcIllegal svc) s else s).atBlock 2 svc size) = .next t ∧
      exec (.sbExt size svc) s = .next t

/-- The pre-scan counts exactly the units that the decoder emits, and the decoder consumes exactly the bytes
of the block (R197, R199, R201; derived there): for every block, `DecodeBlock` ends idle at `sb_end` without
a fatal condition, and the output buffer has gained as many units as `PreCount` said, which are at most as
many as there are bytes (20_memory.md R65). -/
def Obligations.PreCountIsExact : Prop :=
  ∀ s : State, s.fatal = false → s.decoderIdle → s.codesAdmissible → s.rd.val ≤ s.sbEnd.val →
    let n := preCount s s.rd.val s.sbEnd.val
    (n = 0 ∨ ∃ i p, s.out = some i ∧ s.pool[i]? = some p ∧ p.inUse = true ∧
      p.numElements + n ≤ p.maxNumElements) →
    n ≤ s.sbEnd.val - s.rd.val ∧ (decodeBlock s).fatal = false ∧ (decodeBlock s).decoderIdle ∧
    (decodeBlock s).rd.val = s.sbEnd.val ∧ (decodeBlock s).out = s.out ∧
    unitsEmitted (decodeBlock s) = unitsEmitted s + n

/-- A block that yields no unit "produces no buffer and no Dispatch" (R198 (a)). -/
def Obligations.BlockWithoutUnits : Prop :=
  ∀ s : State, s.fatal = false → s.decoderIdle → s.codesAdmissible → s.rd.val ≤ s.sbEnd.val →
    preCount s s.rd.val s.sbEnd.val = 0 →
    ∃ t, exec .processBlock s = .next t ∧ t.fatal = false ∧ t.decoderIdle ∧ t.phase = .parse ∧
      t.rd.val = s.sbEnd.val ∧ t.pool = s.pool ∧ t.out = none ∧ t.expectN = 0 ∧ t.ok = s.ok ∧
      t.sinkCalls = s.sinkCalls ∧ t.pktBuf = s.pktBuf ∧ t.pktLen = s.pktLen

/-- A block that yields units (R198, R200, 40_buffer_fanout.md R136, 20_memory.md R72), with sinks that at most
release what they were given: one free slot becomes a buffer of exactly the pre-count with the timestamp
`cur_ts`, which holds the units that `DecodeBlock` has put there, every one tagged with the service and the
sequence number; every sink is called with it in registration order; `ok` takes the answers; the producer's
reference is released. With no sink registered (R200 (b)) `EV_NO_SINKS` is raised, `ok` becomes false, and the
release frees the buffer. -/
def Obligations.BlockIsDelivered : Prop :=
  ∀ s : State, s.fatal = false → s.decoderIdle → s.codesAdmissible → s.rd.val ≤ s.sbEnd.val →
    0 < preCount s s.rd.val s.sbEnd.val → (∃ p ∈ s.pool, p.inUse = false) → s.dutifulSinks →
    let n := s.sinks.length
    let decoded := decodeBlock (openBlock s)
    let left := n - releasesIn (s.answers n)
    ∃ t i q units, exec .processBlock s = .next t ∧ t.fatal = false ∧ t.decoderIdle ∧ t.phase = .parse ∧
      s.pool[i]? = some q ∧ q.inUse = false ∧
      (decoded.pool[i]?).map Slot.data = some units ∧
      units.length = preCount s s.rd.val s.sbEnd.val ∧
      (∀ u ∈ units, ∃ body, u = Element.unit { svc := s.sbSvc, seq := s.curSeq, body := body }) ∧
      t.pool = s.pool.set i
        { inUse := decide (left ≠ 0), type := .dtvccUnits
          maxNumElements := preCount s s.rd.val s.sbEnd.val, readers := left, ts := s.curTs
          data := units } ∧
      t.replies = (s.answered n).replies ∧ t.sinkTick = (s.answered n).sinkTick ∧
      t.sinkCalls = s.sinkCalls ++ acceptCalls s.sinks i s.curTs units ∧
      t.out = none ∧ t.rd.val = s.sbEnd.val ∧ t.pktBuf = s.pktBuf ∧ t.pktLen = s.pktLen ∧
      (s.sinks ≠ [] → t.ok = (s.ok && allSucceed (s.answers n)) ∧ t.diag = decoded.diag ∧
        t.cnt = decoded.cnt) ∧
      (s.sinks = [] → t.ok = false ∧ t.diag = (raise .noSinks decoded).diag ∧
        t.cnt = (raise .noSinks decoded).cnt)

/-- "No input data can cause a fatal condition on its own" (60_exceptions.md R371): whatever bytes PKT
holds, with a free slot and no sink that could hold buffers, a Flush, a `PS`, a `PS!` and the block loop run
to their end, and the pool is as before. -/
def Obligations.NoPacketIsFatal : Prop :=
  ∀ (s : State) (b0 b1 : Byte), s.fatal = false → s.decoderIdle → s.codesAdmissible → s.sinks = [] →
    (∃ p ∈ s.pool, p.inUse = false) →
    (∃ t, exec .flush s = .next t ∧ t.fatal = false ∧ t.pktLen.val = 0 ∧ t.firstFlushDone = true ∧
      t.decoderIdle ∧ t.sinkCalls = s.sinkCalls ∧ t.pool.map Slot.inUse = s.pool.map Slot.inUse) ∧
    (∃ t, exec (.ps b0 b1) s = .next t ∧ t.fatal = false ∧ t.pktLen.val = 2 ∧ t.firstFlushDone = true ∧
      t.decoderIdle ∧ t.sinkCalls = s.sinkCalls ∧ t.pool.map Slot.inUse = s.pool.map Slot.inUse) ∧
    (∃ t, exec (.psInvalid b0 b1) s = .next t ∧ t.fatal = false ∧ t.pktLen.val = 0 ∧
      t.firstFlushDone = true ∧ t.decoderIdle ∧ t.sinkCalls = s.sinkCalls ∧
      t.pool.map Slot.inUse = s.pool.map Slot.inUse) ∧
    (∃ t, exec .parseBlocks s = .next t ∧ t.fatal = false ∧ t.phase = .parsed ∧ t.decoderIdle ∧
      t.sinkCalls = s.sinkCalls ∧ t.pool.map Slot.inUse = s.pool.map Slot.inUse)

/-! ### C0 and the characters -/

/-- The single-byte C0 codes: a recognised code emits its unit (43_decoder_c0.md R230 to R235), any other is
an event and no unit (R236); which codes are recognised is the set `C0_KNOWN` (30_encoding.md R100). -/
def Obligations.SingleByteC0 : Prop :=
  ∀ (s : State) (ins : Instr) (code : Byte), s.AtCode 1 →
    (ins, code) ∈ [(Instr.nul, 0x00#8), (.etx, 0x03#8), (.bs, 0x08#8), (.ff, 0x0C#8), (.cr, 0x0D#8),
      (.hcr, 0x0E#8)] ∨ (ins = .c0Unk1 code ∧ code.toNat ≤ 0x0F) →
    (∀ i p, code ∈ s.cfg.c0Known → s.OutSlot i p →
      exec ins s = .next ((s.consumed 1).withUnit i p (.c0 code))) ∧
    (code ∉ s.cfg.c0Known → exec ins s = .next (raise (.unknownC0 code) (s.consumed 1)))

/-- The reserved codes C0_RSV2, C0_RSV3 (43_decoder_c0.md R238, R240) and C1_RSV (45_c1_commands.md R296):
their length is consumed, an event, no unit. That a reserved C1 code has the length `C1_LEN` gives it (R270,
R272) is DEDUCED (log 26). -/
def Obligations.ReservedCodes : Prop :=
  ∀ (s : State) (code p1 p2 : Byte) (r : ReservedCode),
    (0x11 ≤ code.toNat → code.toNat ≤ 0x17 → s.AtCode 2 →
      exec (.c0Rsv2 code p1) s = .next (raise (.unknownC0 code) (s.afterCode 2 code [p1]))) ∧
    (0x19 ≤ code.toNat → code.toNat ≤ 0x1F → s.AtCode 3 →
      exec (.c0Rsv3 code p1 p2) s = .next (raise (.unknownC0 code) (s.afterCode 3 code [p1, p2]))) ∧
    (s.cfg.c1.admissible = true → s.cfg.c1.isReserved r.code = true →
      r.payload.length + 1 = s.cfg.c1.lenOf r.code → s.AtCode (1 + r.payload.length) →
      exec (.c1Rsv r) s =
        .next (raise (.reservedC1 r.code) (s.afterCode (1 + r.payload.length) r.code r.payload)))

/-- `P16` (43_decoder_c0.md R239): the unit with the two bytes in arrival order, then `EV_P16`. -/
def Obligations.P16Recorded : Prop :=
  ∀ (s : State) (i : Nat) (p : Slot) (p1 p2 : Byte), s.AtCode 3 → s.OutSlot i p →
    exec (.p16 p1 p2) s =
      .next (raise (.p16 p1 p2) ((s.afterCode 3 0x18 [p1, p2]).withUnit i p (.c0P16 p1 p2)))

/-- `G0` and `G1` (44_chars_g0_g1.md R260, R262): with ROM tables of 96 entries (R261, R263) every one of the 96
codes has a glyph, and the code is one unit with that entry of the glyph ROM. -/
def Obligations.CharacterIsEmitted : Prop :=
  ∀ (s : State) (i : Nat) (p : Slot) (b : Byte), s.AtCode 1 → s.OutSlot i p →
    (s.cfg.g0Table.length = 96 → 0x20 ≤ b.toNat → b.toNat ≤ 0x7F →
      ∃ g, s.cfg.g0Table[b.toNat - 0x20]? = some g ∧
        exec (.g0 b) s = .next ((s.consumed 1).withUnit i p (.g0 b g))) ∧
    (s.cfg.g1Table.length = 96 → 0xA0 ≤ b.toNat →
      ∃ g, s.cfg.g1Table[b.toNat - 0xA0]? = some g ∧
        exec (.g1 b) s = .next ((s.consumed 1).withUnit i p (.g1 b g)))

/-! ### C1

A configuration may reserve any of these codes (00_scope.md R7, 45_c1_commands.md R273); a reserved one is
`C1_RSV` (`ReservedCodes`), and so the statements on the commands are about the codes that are not. -/

/-- The C1 commands without a payload (45_c1_commands.md R274, R281, R282). -/
def Obligations.C1WithoutPayload : Prop :=
  ∀ (s : State) (i : Nat) (p : Slot) (ins : Instr) (code : Byte), s.AtCode 1 → s.OutSlot i p →
    (ins, code) ∈ [(Instr.cw0, 0x80#8), (.cw1, 0x81#8), (.cw2, 0x82#8), (.cw3, 0x83#8), (.cw4, 0x84#8),
      (.cw5, 0x85#8), (.cw6, 0x86#8), (.cw7, 0x87#8), (.dlc, 0x8E#8), (.rst, 0x8F#8)] →
    s.cfg.c1.admissible = true → s.cfg.c1.isReserved code = false →
    exec ins s = .next ((s.afterCode 1 code []).withUnit i p (.c1 code .none))

/-- The five window-bitmap commands (R275 to R279) and Delay (R280). -/
def Obligations.BitmapCommandsAndDelay : Prop :=
  ∀ (s : State) (i : Nat) (p : Slot) (p1 : Byte), s.cfg.c1.admissible = true → s.AtCode 2 → s.OutSlot i p →
    (∀ (ins : Instr) (code : Byte), (ins, code) ∈ [(Instr.clw p1, 0x88#8), (.dsw p1, 0x89#8),
      (.hdw p1, 0x8A#8), (.tgw p1, 0x8B#8), (.dlw p1, 0x8C#8)] → s.cfg.c1.isReserved code = false →
      exec ins s = .next ((s.afterCode 2 code [p1]).withUnit i p (.c1 code (.windowBitmap p1)))) ∧
    (s.cfg.c1.isReserved 0x8D = false → exec (.dly p1) s =
      .next ((s.afterCode 2 0x8D [p1]).withUnit i p (.c1 0x8D (.delay p1))))

/-- SetPenAttributes, SetPenColor and SetPenLocation (R283, R284, R285), field by field. -/
def Obligations.PenCommands : Prop :=
  ∀ (s : State) (i : Nat) (p : Slot) (p1 p2 p3 : Byte), s.cfg.c1.admissible = true → s.OutSlot i p →
    (s.cfg.c1.isReserved 0x90 = false → s.AtCode 3 → exec (.spa p1 p2) s =
      .next ((s.afterCode 3 0x90 [p1, p2]).withUnit i p (.c1 0x90 (.penAttributes
        { penSize := p1.extractLsb 1 0, offset := p1.extractLsb 3 2, textTag := p1.extractLsb 7 4
          fontTag := p2.extractLsb 2 0, edgeType := p2.extractLsb 5 3
          underline := p2.extractLsb 6 6, italic := p2.extractLsb 7 7 })))) ∧
    (s.cfg.c1.isReserved 0x91 = false → s.AtCode 4 → exec (.spc p1 p2 p3) s =
      .next ((s.afterCode 4 0x91 [p1, p2, p3]).withUnit i p (.c1 0x91 (.penColor
        { fgOpacity := p1.extractLsb 7 6, fgR := p1.extractLsb 5 4, fgG := p1.extractLsb 3 2
          fgB := p1.extractLsb 1 0
          bgOpacity := p2.extractLsb 7 6, bgR := p2.extractLsb 5 4, bgG := p2.extractLsb 3 2
          bgB := p2.extractLsb 1 0
          edgeR := p3.extractLsb 5 4, edgeG := p3.extractLsb 3 2, edgeB := p3.extractLsb 1 0 })))) ∧
    (s.cfg.c1.isReserved 0x92 = false → s.AtCode 3 → exec (.spl p1 p2) s =
      .next ((s.afterCode 3 0x92 [p1, p2]).withUnit i p (.c1 0x92 (.penLocation
        { row := p1.extractLsb 3 0, column := p2.extractLsb 5 0 }))))

/-- SetWindowAttributes (R286), field by field; `border_type = (p3[7] << 2) | p2[7:6]`. -/
def Obligations.SetWindowAttributes : Prop :=
  ∀ (s : State) (i : Nat) (p : Slot) (p1 p2 p3 p4 : Byte), s.cfg.c1.admissible = true →
    s.cfg.c1.isReserved 0x97 = false → s.AtCode 5 → s.OutSlot i p →
    exec (.swa p1 p2 p3 p4) s =
      .next ((s.afterCode 5 0x97 [p1, p2, p3, p4]).withUnit i p (.c1 0x97 (.windowAttributes
        { fillOpacity := p1.extractLsb 7 6, fillR := p1.extractLsb 5 4, fillG := p1.extractLsb 3 2
          fillB := p1.extractLsb 1 0
          borderType := p3.extractLsb 7 7 ++ p2.extractLsb 7 6
          borderR := p2.extractLsb 5 4, borderG := p2.extractLsb 3 2, borderB := p2.extractLsb 1 0
          wordWrap := p3.extractLsb 6 6, printDirection := p3.extractLsb 5 4
          scrollDirection := p3.extractLsb 3 2, justify := p3.extractLsb 1 0
          effectSpeed := p4.extractLsb 7 4, effectDirection := p4.extractLsb 3 2
          displayEffect := p4.extractLsb 1 0 })))

/-- DefineWindow (R287): the unit, field by field, then the classifier with the service of the block and the
window-style field. -/
def Obligations.DefineWindow : Prop :=
  ∀ (s : State) (i : Nat) (p : Slot) (p1 p2 p3 p4 p5 p6 : Byte) (ins : Instr) (code : Byte),
    s.cfg.c1.admissible = true → s.cfg.c1.isReserved code = false → s.AtCode 7 → s.OutSlot i p →
    (ins, code) ∈ [(Instr.df0 p1 p2 p3 p4 p5 p6, 0x98#8), (.df1 p1 p2 p3 p4 p5 p6, 0x99#8),
      (.df2 p1 p2 p3 p4 p5 p6, 0x9A#8), (.df3 p1 p2 p3 p4 p5 p6, 0x9B#8),
      (.df4 p1 p2 p3 p4 p5 p6, 0x9C#8), (.df5 p1 p2 p3 p4 p5 p6, 0x9D#8),
      (.df6 p1 p2 p3 p4 p5 p6, 0x9E#8), (.df7 p1 p2 p3 p4 p5 p6, 0x9F#8)] →
    exec ins s =
      .next (classify s.sbSvc (p6.extractLsb 5 3)
        ((s.afterCode 7 code [p1, p2, p3, p4, p5, p6]).withUnit i p
          (.c1 code (.windowDefinition (windowDefinitionOf code p1 p2 p3 p4 p5 p6)))))

/-- `Classify` (47_style_classifier.md R342): nothing for an unclassifiable window style or the same style;
the first style of a service; a transition sets the flag, raises the event and takes the new style; and
services are independent. -/
def Obligations.ClassifierTransitions : Prop :=
  ∀ (s : State) (svc : BitVec 6) (ws : BitVec 3), svc ≠ 0 →
    let c := styleClassOf s.cfg.styleClass ws
    (c = .unset ∨ c = styleOf s svc → classify svc ws s = s) ∧
    (c ≠ .unset → styleOf s svc = .unset →
      styleOf (classify svc ws s) svc = c ∧
      classify svc ws s = { s with style := (classify svc ws s).style }) ∧
    (c ≠ .unset → styleOf s svc ≠ .unset → styleOf s svc ≠ c →
      styleOf (classify svc ws s) svc = c ∧ ambiguousOf (classify svc ws s) svc = true ∧
      classify svc ws s =
        { raise (.styleTransition svc (styleOf s svc) c) s with
          style := (classify svc ws s).style, ambiguous := (classify svc ws s).ambiguous }) ∧
    (∀ other : BitVec 6, other ≠ 0 → other ≠ svc →
      styleOf (classify svc ws s) other = styleOf s other ∧
      ambiguousOf (classify svc ws s) other = ambiguousOf s other)

/-! ### The extended codes -/

/-- C2 and C3 codes of a known length (46_extended_codes.md R312 to R315, R318, R319): the extra bytes are
discarded, a unit with their number, and the event. -/
def Obligations.UnsupportedExtendedCodes : Prop :=
  ∀ (s : State) (i : Nat) (p : Slot) (e x1 x2 x3 x4 x5 : Byte), s.OutSlot i p →
    (e.toNat ≤ 0x07 → s.AtCode 2 → exec (.ext1C20 e) s =
      .next (raise (.unsupportedC2 e) ((s.afterCode 2 e []).withUnit i p (.c2 e 0)))) ∧
    (0x08 ≤ e.toNat → e.toNat ≤ 0x0F → s.AtCode 3 → exec (.ext1C21 e x1) s =
      .next (raise (.unsupportedC2 e) ((s.afterCode 3 e []).withUnit i p (.c2 e 1)))) ∧
    (0x10 ≤ e.toNat → e.toNat ≤ 0x17 → s.AtCode 4 → exec (.ext1C22 e x1 x2) s =
      .next (raise (.unsupportedC2 e) ((s.afterCode 4 e []).withUnit i p (.c2 e 2)))) ∧
    (0x18 ≤ e.toNat → e.toNat ≤ 0x1F → s.AtCode 5 → exec (.ext1C23 e x1 x2 x3) s =
      .next (raise (.unsupportedC2 e) ((s.afterCode 5 e []).withUnit i p (.c2 e 3)))) ∧
    (0x80 ≤ e.toNat → e.toNat ≤ 0x87 → s.AtCode 6 → exec (.ext1C34 e x1 x2 x3 x4) s =
      .next (raise (.unsupportedC3 e) ((s.afterCode 6 e []).withUnit i p (.c3 e 4)))) ∧
    (0x88 ≤ e.toNat → e.toNat ≤ 0x8F → s.AtCode 7 → exec (.ext1C35 e x1 x2 x3 x4 x5) s =
      .next (raise (.unsupportedC3 e) ((s.afterCode 7 e []).withUnit i p (.c3 e 5))))

/-- The C3 codes 0x90 to 0x9F (R320): no unit; the rest of the service block is skipped and the event says
how many bytes that is. -/
def Obligations.VariableLengthC3AbandonsBlock : Prop :=
  ∀ (s : State) (e : Byte), s.AtCode 2 → 0x90 ≤ e.toNat → e.toNat ≤ 0x9F →
    exec (.ext1C3Var e) s =
      .next (raise (.c3VarlenAbandon e (s.sbEnd.val - (s.rd.val + 2)))
        { s.afterCode 2 0x10 [] with rd := s.sbEnd })

/-- `EXT1_G2` and `EXT1_G3` (R316, R321): one unit, with the glyph of the table or the unknown glyph. -/
def Obligations.ExtendedCharacters : Prop :=
  ∀ (s : State) (i : Nat) (p : Slot) (e : Byte), s.AtCode 2 → s.OutSlot i p →
    (0x20 ≤ e.toNat → e.toNat ≤ 0x7F → exec (.ext1G2 e) s =
      .next ((s.afterCode 2 0x10 []).withUnit i p
        (.g2 e ((s.cfg.g2Table.lookup e).getD .unknownGlyph)))) ∧
    (0xA0 ≤ e.toNat → exec (.ext1G3 e) s =
      .next ((s.afterCode 2 0x10 []).withUnit i p
        (.g3 e ((s.cfg.g3Table.lookup e).getD .unknownGlyph))))

/-! ### Codes that do not complete -/

/-- A code of which the block holds only the first bytes (43_decoder_c0.md R224): they are consumed,
`EV_DECODE_TRUNCATED` with the tag, the mode and the bytes still needed, and no unit, no other event, no
classification. -/
def Obligations.CutCodeIsTruncated : Prop :=
  ∀ (s : State) (ins : Instr), s.fatal = false → s.mode = .dataWait → s.cfg.c1.admissible = true →
    ins.wf s.cfg.c1 = true → ins.level = .code →
    let bytes := encode s.cfg.tags ins
    let k := s.sbEnd.val - s.rd.val
    0 < k → k < bytes.length →
    exec ins s =
      .next (raise (cutRecord bytes k)
        { s.afterCode k (cutTag bytes k) (cutPayload bytes k) with rd := s.sbEnd })

/-- A unit that finds no output buffer (42_service_block_parser.md R198 (c)) or a full one (40_buffer_fanout.md
R132) is `F_COUNT_MISMATCH`, and no later line runs (60_exceptions.md R370). For every code that yields a unit:
its bytes are consumed, and but for the decoder's registers nothing changes before the fatal condition, so
that no event is raised and DefineWindow does not reach the classifier. Exactly, for `G0` and for `P16`. -/
def Obligations.UnitWithoutRoomIsFatal : Prop :=
  ∀ s : State, s.noRoom →
    (∀ ins : Instr, s.cfg.c1.admissible = true → ins.wf s.cfg.c1 = true →
      yieldsUnit s.cfg.c0Known ins = true → s.AtCode ins.tableLength →
      ∃ u, exec ins s = .next (raiseFatal .countMismatch u) ∧
        u = { s.consumed ins.tableLength with
          mode := u.mode, remaining := u.remaining, cmd := u.cmd, extPhase := u.extPhase, acc := u.acc
          accN := u.accN }) ∧
    (∀ b : Byte, 0x20 ≤ b.toNat → b.toNat ≤ 0x7F → s.AtCode 1 →
      exec (.g0 b) s = .next (raiseFatal .countMismatch (s.consumed 1))) ∧
    (∀ p1 p2 : Byte, s.AtCode 3 →
      exec (.p16 p1 p2) s =
        .next (raiseFatal .countMismatch
          { s.consumed 3 with
            mode := .c0Pending, cmd := 0x18, remaining := 0, accN := 2
            acc := accWith [p1, p2] s.acc }))

/-! ### The substrate -/

/-- `Allocate` (40_buffer_fanout.md R131): `F_POOL_EXHAUSTED` where every slot is in use, otherwise some free
slot, fresh, with one reader. -/
def Obligations.AllocateTakesFreeSlot : Prop :=
  ∀ (s : State) (type : BufType) (capacity : Nat), s.fatal = false →
    ((∀ p ∈ s.pool, p.inUse = true) →
      exec (.allocate type capacity) s = .next (raiseFatal .poolExhausted { s with ret := none })) ∧
    ((∃ p ∈ s.pool, p.inUse = false) →
      ∃ i q, s.pool[i]? = some q ∧ q.inUse = false ∧
        exec (.allocate type capacity) s =
          .next { s with
            pool := s.pool.set i
              { inUse := true, type := type, maxNumElements := capacity, readers := 1, ts := .none
                data := [] }
            ret := some (.handle i) })

/-- `Append` and `SetTimestamp` (R132). -/
def Obligations.BufferWrites : Prop :=
  ∀ (s : State) (i : Nat) (p : Slot) (v : Element) (ts : Timestamp), s.LiveSlot i p →
    (p.numElements = p.maxNumElements →
      exec (.append (some i) v) s = .next (raiseFatal .countMismatch { s with ret := none })) ∧
    (p.numElements ≠ p.maxNumElements →
      exec (.append (some i) v) s =
        .next { s with pool := s.pool.set i { p with data := p.data ++ [v] }, ret := none }) ∧
    exec (.setTimestamp (some i) ts) s =
      .next { s with pool := s.pool.set i { p with ts := ts }, ret := none }

/-- `AddReader` (R133) and `Release` (R134), which frees at zero. -/
def Obligations.ReaderCount : Prop :=
  ∀ (s : State) (i : Nat) (p : Slot), s.LiveSlot i p →
    exec (.addReader (some i)) s =
      .next { s with pool := s.pool.set i { p with readers := p.readers + 1 }, ret := none } ∧
    (p.readers = 0 →
      exec (.release (some i)) s = .next (raiseFatal .contract { s with ret := none })) ∧
    (p.readers = 1 →
      exec (.release (some i)) s =
        .next { s with pool := s.pool.set i { p with readers := 0, inUse := false }, ret := none }) ∧
    (2 ≤ p.readers →
      exec (.release (some i)) s =
        .next { s with pool := s.pool.set i { p with readers := p.readers - 1 }, ret := none })

/-- A handle that is `NULL`, out of range or not in use is `F_CONTRACT` (R130), in every operation on a
handle. -/
def Obligations.BadHandleIsFatal : Prop :=
  ∀ (s : State) (h : Handle) (v : Element) (ts : Timestamp), s.fatal = false → s.badHandle h →
    let t := raiseFatal .contract { s with ret := none }
    exec (.append h v) s = .next t ∧ exec (.setTimestamp h ts) s = .next t ∧
    exec (.addReader h) s = .next t ∧ exec (.release h) s = .next t ∧ exec (.dispatch h) s = .next t

/-- The lifecycle of a buffer (R134): with one reader, `n` times `AddReader` and then `Release`, it is "freed
exactly once, after exactly N+1 releases, never earlier", and one release more is `F_CONTRACT`. -/
def Obligations.BufferLifecycle : Prop :=
  ∀ (s : State) (i n : Nat) (p : Slot), s.LiveSlot i p → p.readers = 1 →
    (∀ k, k ≤ n + 1 →
      ∃ t q, execAll (List.replicate n (.addReader (some i)) ++ List.replicate k (.release (some i))) s =
          some t ∧
        t.fatal = false ∧ t.pool[i]? = some q ∧ q.readers = n + 1 - k ∧ (q.inUse = true ↔ k ≤ n) ∧
        q.data = p.data ∧ q.ts = p.ts) ∧
    (∃ t, execAll
        (List.replicate n (.addReader (some i)) ++ List.replicate (n + 2) (.release (some i))) s = some t ∧
      t.fatal = true ∧ t.fatalCause = .contract)

/-- `Dispatch` to zero sinks (R136 (c)): `EV_NO_SINKS`, the result false, no reference taken. -/
def Obligations.DispatchToNoSinks : Prop :=
  ∀ (s : State) (i : Nat) (p : Slot), s.LiveSlot i p → s.sinks = [] →
    exec (.dispatch (some i)) s = .next { raise .noSinks s with ret := some (.bool false) }

/-- `Dispatch` (R136) to sinks that at most release what they were given: every sink is called once, in
registration order, with the same buffer, whatever the others answer; the reader count rises by the number of
sinks before the first call and falls by one for each release; the result is the AND of the answers. The
answers are the script's, and where it is too short those of the free values (00_scope.md R10). -/
def Obligations.DispatchCallsEverySink : Prop :=
  ∀ (s : State) (i : Nat) (p : Slot), s.LiveSlot i p → 1 ≤ p.readers → s.sinks ≠ [] → s.dutifulSinks →
    let n := s.sinks.length
    exec (.dispatch (some i)) s =
      .next { s.answered n with
        pool := s.pool.set i { p with readers := p.readers + n - releasesIn (s.answers n) }
        sinkCalls := s.sinkCalls ++ acceptCalls s.sinks i p.ts p.data
        ret := some (.bool (allSucceed (s.answers n))) }

/-- `Shutdown` (R137): every sink is sent `terminate`, in registration order; the result is the AND of the
answers, true with zero sinks. -/
def Obligations.ShutdownCallsEverySink : Prop :=
  ∀ s : State, s.fatal = false → s.dutifulSinks →
    let n := s.sinks.length
    exec .shutdown s =
      .next { s.answered n with
        sinkCalls := s.sinkCalls ++ terminateCalls s.sinks
        ret := some (.bool (allSucceed (s.answers n))) }

/-- `RegisterSink` (R138): the type check comes before the count check. -/
def Obligations.RegisterSinkCases : Prop :=
  ∀ (s : State) (sink : Nat), s.fatal = false → s.phase = .host →
    (∀ type, type ≠ .dtvccUnits →
      exec (.registerSink sink type) s =
        .next { raise (.sinkRefused type) s with ret := some .refused }) ∧
    (s.sinks.length = s.cfg.maxSinks →
      exec (.registerSink sink .dtvccUnits) s =
        .next (raiseFatal .tooManySinks { s with ret := none })) ∧
    (s.sinks.length ≠ s.cfg.maxSinks →
      exec (.registerSink sink .dtvccUnits) s =
        .next { s with
          sinks := s.sinks ++ [{ sink := sink, consumes := .dtvccUnits }], ret := some .registered })

/-! ### Accept and Terminate -/

/-- The contract of the upstream channel (41_packet_assembler.md R160, R172): after `Terminate` both calls are
`F_CONTRACT`, and so is `Accept` of a handle that names no buffer, of a buffer of another type, or of one that
does not hold whole constructs. While an operation is in progress the calls and `RegisterSink` are refused
(70_reset_and_hazards.md R413 forbids them; that the model refuses is its choice, log 14). -/
def Obligations.UpstreamContract : Prop :=
  ∀ (s : State) (h : Handle), s.fatal = false →
    (s.phase = .host → s.terminated = true →
      exec (.accept h) s = .next (raiseFatal .contract { s with ret := none }) ∧
      exec .terminate s = .next (raiseFatal .contract { s with ret := none })) ∧
    (s.phase = .host → s.terminated = false →
      (s.badHandle h ∨ ∃ i p, h = some i ∧ s.pool[i]? = some p ∧
        (p.type ≠ .rawCc ∨ p.numElements % 3 ≠ 0)) →
      exec (.accept h) s = .next (raiseFatal .contract { s with ret := none })) ∧
    (s.phase ≠ .host → exec (.accept h) s = .refused .reentrant ∧ exec .terminate s = .refused .reentrant ∧
      ∀ sink type, exec (.registerSink sink type) s = .refused .reentrant)

/-- `Accept` (R160 to R164, R171, 20_memory.md R61, R67). Of a buffer without a packet-start: the payload bytes
of its valid packet-data constructs are appended in order, the other constructs do nothing, no byte already
held changes; `cur_ts` is the buffer's timestamp, the buffer is released once, the result is true. Of any
buffer, with sinks that at most release what they were given: where no fatal condition arises, the buffer is
released once, at the end, and the result is the AND of the answers of all the dispatches of the call, false
where one of them found no sink; after a fatal condition the buffer is not released and there is no result. -/
def Obligations.AcceptAppendsAndAnswers : Prop :=
  (∀ (s : State) (i : Nat) (p : Slot) (cs : List RawConstruct), s.LiveSlot i p → s.phase = .host →
    s.terminated = false → p.type = .rawCc → 1 ≤ p.readers → p.data = inbufOf cs → s.pktBuf.wf = true →
    (∀ c ∈ cs, hdrTag c.hdr ≠ s.cfg.tags.pktStart) →
    s.pktLen.val + (packetDataBytes s.cfg.tags cs).length ≤ 128 →
    ∃ t, exec (.accept (some i)) s = .next t ∧
      t.pktLen.val = s.pktLen.val + (packetDataBytes s.cfg.tags cs).length ∧
      pktBytes t s.pktLen.val t.pktLen.val = packetDataBytes s.cfg.tags cs ∧
      (∀ a, a < s.pktLen.val ∨ t.pktLen.val ≤ a → pktByte t a = pktByte s a) ∧
      t = { s with
        pktBuf := t.pktBuf, pktLen := t.pktLen, curTs := p.ts, ok := true, cidx := cs.length
        pool := s.pool.set i
          { p with readers := p.readers - 1, inUse := decide (p.readers - 1 ≠ 0) }
        ret := some (.bool true), phase := .host, inProgress := .none }) ∧
  (∀ (s : State) (i : Nat) (p : Slot), s.LiveSlot i p → s.phase = .host → s.terminated = false →
    p.type = .rawCc → p.numElements % 3 = 0 → 1 ≤ p.readers → s.dutifulSinks →
    ∃ t calls, exec (.accept (some i)) s = .next t ∧ t.sinkCalls = s.sinkCalls ++ calls ∧
      t.curTs = p.ts ∧ t.terminated = false ∧
      (t.fatal = false → t.phase = .host ∧ t.inProgress = .none ∧ t.cidx = p.numElements / 3 ∧
        t.pool[i]? = some { p with readers := p.readers - 1, inUse := decide (p.readers - 1 ≠ 0) } ∧
        (s.sinks ≠ [] → t.ret = some (.bool (allSucceed (s.answers calls.length)))) ∧
        (s.sinks = [] → calls = [] ∧
          t.ret = some (.bool (decide (noSinksEvents t.diag = noSinksEvents s.diag))))) ∧
      (t.fatal = true → t.pool[i]? = some p ∧ t.ret = none))

/-- `Terminate` (R172, 60_exceptions.md R392): the Flush, then the `terminate` of every sink, then the report,
then `terminated`, and the AND of all answers as the result; and what that comes to where nothing is
assembled. -/
def Obligations.TerminateFlushesShutsDownReports : Prop :=
  ∀ (s u : State), s.fatal = false → s.phase = .host → s.terminated = false →
    (exec .flush { s with ret := none, ok := true, inProgress := .terminate } = .next u ∨
      (s.pktLen.val = 0 ∧
        u = State.afterEmptyFlush { s with ret := none, ok := true, inProgress := .terminate })) →
    u.fatal = false → u.dutifulSinks →
    let n := u.sinks.length
    exec .terminate s =
      .next { u.answered n with
        sinkCalls := u.sinkCalls ++ terminateCalls u.sinks
        diag := u.diag ++ [.report (reportOfCounters u)]
        terminated := true
        ret := some (.bool (u.ok && allSucceed (u.answers n)))
        phase := .host, inProgress := .none }

/-! ### The whole machine -/

/-- Non-interference of the classifier (47_style_classifier.md R343): two states that differ only in the style
registers, the counters and stream of the diagnostic channel, and `STYLE_CLASS` have, for every instruction,
outcomes that differ only there. -/
def Obligations.ClassifierNeverAltersOutput : Prop :=
  ∀ (i : Instr) (s s' : State), s.withoutDiagnosis = s'.withoutDiagnosis →
    withoutDiagnosis (exec i s) = withoutDiagnosis (exec i s')

/-- `ProcessBlock` is its codes, one step each: from the block as it is opened, steps reach what the
instruction as a whole answers (43_decoder_c0.md R221; log 13). -/
def Obligations.BlockRunsStepByStep : Prop :=
  ∀ s : State, s.fatal = false → s.mode = .dataWait → s.cfg.c1.admissible = true →
    (openBlock s).fatal = false →
    ∃ n t, exec .processBlock s = .next t ∧ runSteps n (openBlock s) = some t

/-- `ParseBlocks` is its service blocks, one step each (42_service_block_parser.md R190; log 13). -/
def Obligations.ParseRunsStepByStep : Prop :=
  ∀ s : State, s.fatal = false →
    ∃ n t, exec .parseBlocks s = .next t ∧ runSteps n { s with rd := 1, phase := .parse } = some t

/-- `Accept` is its constructs, one step each, "one construct per step" (10_state.md R24, 41_packet_assembler.md
R160; log 13). -/
def Obligations.AcceptRunsStepByStep : Prop :=
  ∀ (s : State) (inbuf : Handle), s.fatal = false → s.phase = .host →
    (enterAccept inbuf { s with ret := none }).fatal = false →
    ∃ n t, exec (.accept inbuf) s = .next t ∧
      runSteps n (enterAccept inbuf { s with ret := none }) = some t

end Statements
end

