-- ==== Sys2Proof/Laws/Memory.lean ====
section
/-! SUPPORT. The laws of PKT: what a read after a write gives, and that every memory operation keeps the
canonical form. -/

namespace Sys2Proof.Machine

/-- The addresses of a canonical memory above `a`. -/
def Memory.above (a : Nat) : Memory → Prop
  | [] => True
  | c :: _ => a < c.1

theorem Memory.wf_cons {c : Host.Cell} {m : Memory} :
    Memory.wf (c :: m) = true ↔
      c.1 < Config.maxPkt ∧ c.2 ≠ Memory.unlisted ∧ Memory.above c.1 m ∧ Memory.wf m = true := by
  induction m generalizing c with
  | nil => simp [Memory.wf, Memory.above]
  | cons d rest ih =>
    have := @ih d
    simp only [Memory.wf, Memory.above, Bool.and_eq_true, decide_eq_true_eq] at *
    constructor
    · rintro ⟨⟨h1, h2⟩, h3⟩
      exact ⟨by have := (this.1 h3).1; omega, h2, h1, h3⟩
    · rintro ⟨_, h2, h3, h4⟩
      exact ⟨⟨h3, h2⟩, h4⟩

theorem Memory.above_trans {a b : Nat} {m : Memory} (h : a < b) (hm : Memory.above b m) :
    Memory.above a m := by
  cases m with
  | nil => trivial
  | cons c rest => simp only [Memory.above] at *; omega

theorem Memory.read_above {a : Nat} {m : Memory} (hm : Memory.above a m) (hw : m.wf = true) :
    m.read a = Memory.unlisted := by
  induction m with
  | nil => rfl
  | cons c rest ih =>
    obtain ⟨_, _, h3, h4⟩ := Memory.wf_cons.1 hw
    have hc : a < c.1 := hm
    rw [Memory.read, if_neg (by omega)]
    exact ih (Memory.above_trans hc h3) h4

theorem Memory.cons_wf {a : Nat} {b : Byte} {m : Memory} (ha : a < Config.maxPkt)
    (hm : Memory.above a m) (hw : m.wf = true) : (Memory.cons a b m).wf = true := by
  unfold Memory.cons
  split
  · exact hw
  · exact Memory.wf_cons.2 ⟨ha, by assumption, hm, hw⟩

theorem Memory.cons_above {a k : Nat} {b : Byte} {m : Memory} (h : k < a) (hm : Memory.above a m) :
    Memory.above k (Memory.cons a b m) := by
  unfold Memory.cons
  split
  · exact Memory.above_trans h hm
  · exact h

theorem Memory.insert_above {a k : Nat} {b : Byte} {m : Memory} (h : k < a) (hm : Memory.above k m)
    (hw : m.wf = true) : Memory.above k (Memory.insert a b m) := by
  cases m with
  | nil => exact Memory.cons_above h trivial
  | cons c rest =>
    have hc : k < c.1 := hm
    obtain ⟨_, _, h3, _⟩ := Memory.wf_cons.1 hw
    unfold Memory.insert
    split
    · exact Memory.cons_above h (by assumption)
    · split
      · exact Memory.cons_above h (by simp_all)
      · exact hc

theorem Memory.insert_wf {a : Nat} {b : Byte} {m : Memory} (ha : a < Config.maxPkt)
    (hw : m.wf = true) : (Memory.insert a b m).wf = true := by
  induction m with
  | nil => exact Memory.cons_wf ha trivial rfl
  | cons c rest ih =>
    obtain ⟨h1, h2, h3, h4⟩ := Memory.wf_cons.1 hw
    unfold Memory.insert
    split
    · exact Memory.cons_wf ha (by assumption) hw
    · split
      · exact Memory.cons_wf ha (by simp_all) h4
      · exact Memory.wf_cons.2 ⟨h1, h2, Memory.insert_above (by omega) h3 h4, ih h4⟩

/-- Every write keeps the canonical form. -/
theorem Memory.write_wf {m : Memory} (a : Nat) (b : Byte) (hw : m.wf = true) :
    (m.write a b).wf = true := by
  unfold Memory.write
  split
  · exact Memory.insert_wf (by assumption) hw
  · exact hw

theorem Memory.read_cons {a k : Nat} {b : Byte} {m : Memory} (hm : Memory.above a m)
    (hw : m.wf = true) : (Memory.cons a b m).read k = if k = a then b else m.read k := by
  unfold Memory.cons
  split
  · rename_i hb
    split
    · rename_i hk
      rw [hk, hb, Memory.read_above hm hw]
    · rfl
  · rw [Memory.read]
    simp only [eq_comm]

theorem Memory.read_insert {a k : Nat} {b : Byte} {m : Memory} (hw : m.wf = true) :
    (Memory.insert a b m).read k = if k = a then b else m.read k := by
  induction m with
  | nil => exact Memory.read_cons trivial rfl
  | cons c rest ih =>
    obtain ⟨h1, h2, h3, h4⟩ := Memory.wf_cons.1 hw
    unfold Memory.insert
    split
    · exact Memory.read_cons (by assumption) hw
    · split
      · rename_i hac
        rw [Memory.read_cons (by rw [hac]; exact h3) h4]
        split
        · rfl
        · rename_i hk
          rw [Memory.read, if_neg (by omega)]
      · rw [Memory.read, Memory.read, ih h4]
        split <;> split <;> first | rfl | omega

/-- What a read gives after a write inside PKT: the byte written there, and elsewhere what it gave before. -/
theorem Memory.read_write {m : Memory} {a k : Nat} {b : Byte} (hw : m.wf = true)
    (ha : a < Config.maxPkt) : (m.write a b).read k = if k = a then b else m.read k := by
  rw [Memory.write, if_pos ha, Memory.read_insert hw]

/-- Appending a pair keeps the canonical form. -/
theorem appendPair_wf {s : State} (b0 b1 : Byte) (hw : s.pktBuf.wf = true) :
    (appendPair b0 b1 s).pktBuf.wf = true := Memory.write_wf _ _ (Memory.write_wf _ _ hw)

/-- The memory after reset is canonical. -/
theorem reset_memory_wf : State.reset.pktBuf.wf = true := rfl

end Sys2Proof.Machine
end

