-- ==== Sys2Proof/Laws/State.lean ====
section
/-! SUPPORT. What each named update of the state does to each field: one lemma per field per update. -/

namespace Sys2Proof.Machine

/-! ### `raise` -/

@[simp] theorem raise_cfg (e : Event) (s : State) : (raise e s).cfg = s.cfg := rfl
@[simp] theorem raise_pktBuf (e : Event) (s : State) : (raise e s).pktBuf = s.pktBuf := rfl
@[simp] theorem raise_pktLen (e : Event) (s : State) : (raise e s).pktLen = s.pktLen := rfl
@[simp] theorem raise_firstFlushDone (e : Event) (s : State) : (raise e s).firstFlushDone = s.firstFlushDone := rfl
@[simp] theorem raise_zeroLenLogged (e : Event) (s : State) : (raise e s).zeroLenLogged = s.zeroLenLogged := rfl
@[simp] theorem raise_curTs (e : Event) (s : State) : (raise e s).curTs = s.curTs := rfl
@[simp] theorem raise_cidx (e : Event) (s : State) : (raise e s).cidx = s.cidx := rfl
@[simp] theorem raise_rd (e : Event) (s : State) : (raise e s).rd = s.rd := rfl
@[simp] theorem raise_sbSvc (e : Event) (s : State) : (raise e s).sbSvc = s.sbSvc := rfl
@[simp] theorem raise_sbLen (e : Event) (s : State) : (raise e s).sbLen = s.sbLen := rfl
@[simp] theorem raise_sbEnd (e : Event) (s : State) : (raise e s).sbEnd = s.sbEnd := rfl
@[simp] theorem raise_curSeq (e : Event) (s : State) : (raise e s).curSeq = s.curSeq := rfl
@[simp] theorem raise_mode (e : Event) (s : State) : (raise e s).mode = s.mode := rfl
@[simp] theorem raise_remaining (e : Event) (s : State) : (raise e s).remaining = s.remaining := rfl
@[simp] theorem raise_cmd (e : Event) (s : State) : (raise e s).cmd = s.cmd := rfl
@[simp] theorem raise_extPhase (e : Event) (s : State) : (raise e s).extPhase = s.extPhase := rfl
@[simp] theorem raise_acc (e : Event) (s : State) : (raise e s).acc = s.acc := rfl
@[simp] theorem raise_accN (e : Event) (s : State) : (raise e s).accN = s.accN := rfl
@[simp] theorem raise_lastSeq (e : Event) (s : State) : (raise e s).lastSeq = s.lastSeq := rfl
@[simp] theorem raise_lastSeqValid (e : Event) (s : State) : (raise e s).lastSeqValid = s.lastSeqValid := rfl
@[simp] theorem raise_style (e : Event) (s : State) : (raise e s).style = s.style := rfl
@[simp] theorem raise_ambiguous (e : Event) (s : State) : (raise e s).ambiguous = s.ambiguous := rfl
@[simp] theorem raise_cnt (e : Event) (s : State) : (raise e s).cnt = s.cnt.setIfInBounds (e.code - 1) (bump s.cfg (counterOf s e.code)) := rfl
@[simp] theorem raise_fatal (e : Event) (s : State) : (raise e s).fatal = s.fatal := rfl
@[simp] theorem raise_fatalCause (e : Event) (s : State) : (raise e s).fatalCause = s.fatalCause := rfl
@[simp] theorem raise_terminated (e : Event) (s : State) : (raise e s).terminated = s.terminated := rfl
@[simp] theorem raise_out (e : Event) (s : State) : (raise e s).out = s.out := rfl
@[simp] theorem raise_expectN (e : Event) (s : State) : (raise e s).expectN = s.expectN := rfl
@[simp] theorem raise_ok (e : Event) (s : State) : (raise e s).ok = s.ok := rfl
@[simp] theorem raise_pool (e : Event) (s : State) : (raise e s).pool = s.pool := rfl
@[simp] theorem raise_sinks (e : Event) (s : State) : (raise e s).sinks = s.sinks := rfl
@[simp] theorem raise_phase (e : Event) (s : State) : (raise e s).phase = s.phase := rfl
@[simp] theorem raise_inProgress (e : Event) (s : State) : (raise e s).inProgress = s.inProgress := rfl
@[simp] theorem raise_ret (e : Event) (s : State) : (raise e s).ret = s.ret := rfl
@[simp] theorem raise_occurred (e : Event) (s : State) : (raise e s).occurred = s.occurred.setIfInBounds (e.code - 1) (occurrencesOf s e.code + 1) := rfl
@[simp] theorem raise_diag (e : Event) (s : State) : (raise e s).diag = s.diag ++ [.event (verboseBit s e (bump s.cfg (counterOf s e.code))) e] := rfl
@[simp] theorem raise_sinkCalls (e : Event) (s : State) : (raise e s).sinkCalls = s.sinkCalls := rfl
@[simp] theorem raise_requests (e : Event) (s : State) : (raise e s).requests = s.requests := rfl
@[simp] theorem raise_replies (e : Event) (s : State) : (raise e s).replies = s.replies := rfl
@[simp] theorem raise_sinkTick (e : Event) (s : State) : (raise e s).sinkTick = s.sinkTick := rfl

/-! ### `raiseFatal` -/

@[simp] theorem raiseFatal_cfg (c : FatalCause) (s : State) : (raiseFatal c s).cfg = s.cfg := rfl
@[simp] theorem raiseFatal_pktBuf (c : FatalCause) (s : State) : (raiseFatal c s).pktBuf = s.pktBuf := rfl
@[simp] theorem raiseFatal_pktLen (c : FatalCause) (s : State) : (raiseFatal c s).pktLen = s.pktLen := rfl
@[simp] theorem raiseFatal_firstFlushDone (c : FatalCause) (s : State) : (raiseFatal c s).firstFlushDone = s.firstFlushDone := rfl
@[simp] theorem raiseFatal_zeroLenLogged (c : FatalCause) (s : State) : (raiseFatal c s).zeroLenLogged = s.zeroLenLogged := rfl
@[simp] theorem raiseFatal_curTs (c : FatalCause) (s : State) : (raiseFatal c s).curTs = s.curTs := rfl
@[simp] theorem raiseFatal_cidx (c : FatalCause) (s : State) : (raiseFatal c s).cidx = s.cidx := rfl
@[simp] theorem raiseFatal_rd (c : FatalCause) (s : State) : (raiseFatal c s).rd = s.rd := rfl
@[simp] theorem raiseFatal_sbSvc (c : FatalCause) (s : State) : (raiseFatal c s).sbSvc = s.sbSvc := rfl
@[simp] theorem raiseFatal_sbLen (c : FatalCause) (s : State) : (raiseFatal c s).sbLen = s.sbLen := rfl
@[simp] theorem raiseFatal_sbEnd (c : FatalCause) (s : State) : (raiseFatal c s).sbEnd = s.sbEnd := rfl
@[simp] theorem raiseFatal_curSeq (c : FatalCause) (s : State) : (raiseFatal c s).curSeq = s.curSeq := rfl
@[simp] theorem raiseFatal_mode (c : FatalCause) (s : State) : (raiseFatal c s).mode = s.mode := rfl
@[simp] theorem raiseFatal_remaining (c : FatalCause) (s : State) : (raiseFatal c s).remaining = s.remaining := rfl
@[simp] theorem raiseFatal_cmd (c : FatalCause) (s : State) : (raiseFatal c s).cmd = s.cmd := rfl
@[simp] theorem raiseFatal_extPhase (c : FatalCause) (s : State) : (raiseFatal c s).extPhase = s.extPhase := rfl
@[simp] theorem raiseFatal_acc (c : FatalCause) (s : State) : (raiseFatal c s).acc = s.acc := rfl
@[simp] theorem raiseFatal_accN (c : FatalCause) (s : State) : (raiseFatal c s).accN = s.accN := rfl
@[simp] theorem raiseFatal_lastSeq (c : FatalCause) (s : State) : (raiseFatal c s).lastSeq = s.lastSeq := rfl
@[simp] theorem raiseFatal_lastSeqValid (c : FatalCause) (s : State) : (raiseFatal c s).lastSeqValid = s.lastSeqValid := rfl
@[simp] theorem raiseFatal_style (c : FatalCause) (s : State) : (raiseFatal c s).style = s.style := rfl
@[simp] theorem raiseFatal_ambiguous (c : FatalCause) (s : State) : (raiseFatal c s).ambiguous = s.ambiguous := rfl
@[simp] theorem raiseFatal_cnt (c : FatalCause) (s : State) : (raiseFatal c s).cnt = s.cnt := rfl
@[simp] theorem raiseFatal_fatal (c : FatalCause) (s : State) : (raiseFatal c s).fatal = true := rfl
@[simp] theorem raiseFatal_fatalCause (c : FatalCause) (s : State) : (raiseFatal c s).fatalCause = c := rfl
@[simp] theorem raiseFatal_terminated (c : FatalCause) (s : State) : (raiseFatal c s).terminated = s.terminated := rfl
@[simp] theorem raiseFatal_out (c : FatalCause) (s : State) : (raiseFatal c s).out = s.out := rfl
@[simp] theorem raiseFatal_expectN (c : FatalCause) (s : State) : (raiseFatal c s).expectN = s.expectN := rfl
@[simp] theorem raiseFatal_ok (c : FatalCause) (s : State) : (raiseFatal c s).ok = s.ok := rfl
@[simp] theorem raiseFatal_pool (c : FatalCause) (s : State) : (raiseFatal c s).pool = s.pool := rfl
@[simp] theorem raiseFatal_sinks (c : FatalCause) (s : State) : (raiseFatal c s).sinks = s.sinks := rfl
@[simp] theorem raiseFatal_phase (c : FatalCause) (s : State) : (raiseFatal c s).phase = s.phase := rfl
@[simp] theorem raiseFatal_inProgress (c : FatalCause) (s : State) : (raiseFatal c s).inProgress = s.inProgress := rfl
@[simp] theorem raiseFatal_ret (c : FatalCause) (s : State) : (raiseFatal c s).ret = s.ret := rfl
@[simp] theorem raiseFatal_occurred (c : FatalCause) (s : State) : (raiseFatal c s).occurred = s.occurred := rfl
@[simp] theorem raiseFatal_diag (c : FatalCause) (s : State) : (raiseFatal c s).diag = s.diag ++ [.fatal c] := rfl
@[simp] theorem raiseFatal_sinkCalls (c : FatalCause) (s : State) : (raiseFatal c s).sinkCalls = s.sinkCalls := rfl
@[simp] theorem raiseFatal_requests (c : FatalCause) (s : State) : (raiseFatal c s).requests = s.requests := rfl
@[simp] theorem raiseFatal_replies (c : FatalCause) (s : State) : (raiseFatal c s).replies = s.replies := rfl
@[simp] theorem raiseFatal_sinkTick (c : FatalCause) (s : State) : (raiseFatal c s).sinkTick = s.sinkTick := rfl

/-! ### `setSlot` -/

@[simp] theorem setSlot_cfg (i : Nat) (p : Slot) (s : State) : (setSlot i p s).cfg = s.cfg := rfl
@[simp] theorem setSlot_pktBuf (i : Nat) (p : Slot) (s : State) : (setSlot i p s).pktBuf = s.pktBuf := rfl
@[simp] theorem setSlot_pktLen (i : Nat) (p : Slot) (s : State) : (setSlot i p s).pktLen = s.pktLen := rfl
@[simp] theorem setSlot_firstFlushDone (i : Nat) (p : Slot) (s : State) : (setSlot i p s).firstFlushDone = s.firstFlushDone := rfl
@[simp] theorem setSlot_zeroLenLogged (i : Nat) (p : Slot) (s : State) : (setSlot i p s).zeroLenLogged = s.zeroLenLogged := rfl
@[simp] theorem setSlot_curTs (i : Nat) (p : Slot) (s : State) : (setSlot i p s).curTs = s.curTs := rfl
@[simp] theorem setSlot_cidx (i : Nat) (p : Slot) (s : State) : (setSlot i p s).cidx = s.cidx := rfl
@[simp] theorem setSlot_rd (i : Nat) (p : Slot) (s : State) : (setSlot i p s).rd = s.rd := rfl
@[simp] theorem setSlot_sbSvc (i : Nat) (p : Slot) (s : State) : (setSlot i p s).sbSvc = s.sbSvc := rfl
@[simp] theorem setSlot_sbLen (i : Nat) (p : Slot) (s : State) : (setSlot i p s).sbLen = s.sbLen := rfl
@[simp] theorem setSlot_sbEnd (i : Nat) (p : Slot) (s : State) : (setSlot i p s).sbEnd = s.sbEnd := rfl
@[simp] theorem setSlot_curSeq (i : Nat) (p : Slot) (s : State) : (setSlot i p s).curSeq = s.curSeq := rfl
@[simp] theorem setSlot_mode (i : Nat) (p : Slot) (s : State) : (setSlot i p s).mode = s.mode := rfl
@[simp] theorem setSlot_remaining (i : Nat) (p : Slot) (s : State) : (setSlot i p s).remaining = s.remaining := rfl
@[simp] theorem setSlot_cmd (i : Nat) (p : Slot) (s : State) : (setSlot i p s).cmd = s.cmd := rfl
@[simp] theorem setSlot_extPhase (i : Nat) (p : Slot) (s : State) : (setSlot i p s).extPhase = s.extPhase := rfl
@[simp] theorem setSlot_acc (i : Nat) (p : Slot) (s : State) : (setSlot i p s).acc = s.acc := rfl
@[simp] theorem setSlot_accN (i : Nat) (p : Slot) (s : State) : (setSlot i p s).accN = s.accN := rfl
@[simp] theorem setSlot_lastSeq (i : Nat) (p : Slot) (s : State) : (setSlot i p s).lastSeq = s.lastSeq := rfl
@[simp] theorem setSlot_lastSeqValid (i : Nat) (p : Slot) (s : State) : (setSlot i p s).lastSeqValid = s.lastSeqValid := rfl
@[simp] theorem setSlot_style (i : Nat) (p : Slot) (s : State) : (setSlot i p s).style = s.style := rfl
@[simp] theorem setSlot_ambiguous (i : Nat) (p : Slot) (s : State) : (setSlot i p s).ambiguous = s.ambiguous := rfl
@[simp] theorem setSlot_cnt (i : Nat) (p : Slot) (s : State) : (setSlot i p s).cnt = s.cnt := rfl
@[simp] theorem setSlot_fatal (i : Nat) (p : Slot) (s : State) : (setSlot i p s).fatal = s.fatal := rfl
@[simp] theorem setSlot_fatalCause (i : Nat) (p : Slot) (s : State) : (setSlot i p s).fatalCause = s.fatalCause := rfl
@[simp] theorem setSlot_terminated (i : Nat) (p : Slot) (s : State) : (setSlot i p s).terminated = s.terminated := rfl
@[simp] theorem setSlot_out (i : Nat) (p : Slot) (s : State) : (setSlot i p s).out = s.out := rfl
@[simp] theorem setSlot_expectN (i : Nat) (p : Slot) (s : State) : (setSlot i p s).expectN = s.expectN := rfl
@[simp] theorem setSlot_ok (i : Nat) (p : Slot) (s : State) : (setSlot i p s).ok = s.ok := rfl
@[simp] theorem setSlot_pool (i : Nat) (p : Slot) (s : State) : (setSlot i p s).pool = s.pool.set i p := rfl
@[simp] theorem setSlot_sinks (i : Nat) (p : Slot) (s : State) : (setSlot i p s).sinks = s.sinks := rfl
@[simp] theorem setSlot_phase (i : Nat) (p : Slot) (s : State) : (setSlot i p s).phase = s.phase := rfl
@[simp] theorem setSlot_inProgress (i : Nat) (p : Slot) (s : State) : (setSlot i p s).inProgress = s.inProgress := rfl
@[simp] theorem setSlot_ret (i : Nat) (p : Slot) (s : State) : (setSlot i p s).ret = s.ret := rfl
@[simp] theorem setSlot_occurred (i : Nat) (p : Slot) (s : State) : (setSlot i p s).occurred = s.occurred := rfl
@[simp] theorem setSlot_diag (i : Nat) (p : Slot) (s : State) : (setSlot i p s).diag = s.diag := rfl
@[simp] theorem setSlot_sinkCalls (i : Nat) (p : Slot) (s : State) : (setSlot i p s).sinkCalls = s.sinkCalls := rfl
@[simp] theorem setSlot_requests (i : Nat) (p : Slot) (s : State) : (setSlot i p s).requests = s.requests := rfl
@[simp] theorem setSlot_replies (i : Nat) (p : Slot) (s : State) : (setSlot i p s).replies = s.replies := rfl
@[simp] theorem setSlot_sinkTick (i : Nat) (p : Slot) (s : State) : (setSlot i p s).sinkTick = s.sinkTick := rfl

/-! ### `complete` -/

@[simp] theorem complete_cfg (s : State) : (complete s).cfg = s.cfg := rfl
@[simp] theorem complete_pktBuf (s : State) : (complete s).pktBuf = s.pktBuf := rfl
@[simp] theorem complete_pktLen (s : State) : (complete s).pktLen = s.pktLen := rfl
@[simp] theorem complete_firstFlushDone (s : State) : (complete s).firstFlushDone = s.firstFlushDone := rfl
@[simp] theorem complete_zeroLenLogged (s : State) : (complete s).zeroLenLogged = s.zeroLenLogged := rfl
@[simp] theorem complete_curTs (s : State) : (complete s).curTs = s.curTs := rfl
@[simp] theorem complete_cidx (s : State) : (complete s).cidx = s.cidx := rfl
@[simp] theorem complete_rd (s : State) : (complete s).rd = s.rd := rfl
@[simp] theorem complete_sbSvc (s : State) : (complete s).sbSvc = s.sbSvc := rfl
@[simp] theorem complete_sbLen (s : State) : (complete s).sbLen = s.sbLen := rfl
@[simp] theorem complete_sbEnd (s : State) : (complete s).sbEnd = s.sbEnd := rfl
@[simp] theorem complete_curSeq (s : State) : (complete s).curSeq = s.curSeq := rfl
@[simp] theorem complete_mode (s : State) : (complete s).mode = .dataWait := rfl
@[simp] theorem complete_remaining (s : State) : (complete s).remaining = 0 := rfl
@[simp] theorem complete_cmd (s : State) : (complete s).cmd = s.cmd := rfl
@[simp] theorem complete_extPhase (s : State) : (complete s).extPhase = .code := rfl
@[simp] theorem complete_acc (s : State) : (complete s).acc = s.acc := rfl
@[simp] theorem complete_accN (s : State) : (complete s).accN = 0 := rfl
@[simp] theorem complete_lastSeq (s : State) : (complete s).lastSeq = s.lastSeq := rfl
@[simp] theorem complete_lastSeqValid (s : State) : (complete s).lastSeqValid = s.lastSeqValid := rfl
@[simp] theorem complete_style (s : State) : (complete s).style = s.style := rfl
@[simp] theorem complete_ambiguous (s : State) : (complete s).ambiguous = s.ambiguous := rfl
@[simp] theorem complete_cnt (s : State) : (complete s).cnt = s.cnt := rfl
@[simp] theorem complete_fatal (s : State) : (complete s).fatal = s.fatal := rfl
@[simp] theorem complete_fatalCause (s : State) : (complete s).fatalCause = s.fatalCause := rfl
@[simp] theorem complete_terminated (s : State) : (complete s).terminated = s.terminated := rfl
@[simp] theorem complete_out (s : State) : (complete s).out = s.out := rfl
@[simp] theorem complete_expectN (s : State) : (complete s).expectN = s.expectN := rfl
@[simp] theorem complete_ok (s : State) : (complete s).ok = s.ok := rfl
@[simp] theorem complete_pool (s : State) : (complete s).pool = s.pool := rfl
@[simp] theorem complete_sinks (s : State) : (complete s).sinks = s.sinks := rfl
@[simp] theorem complete_phase (s : State) : (complete s).phase = s.phase := rfl
@[simp] theorem complete_inProgress (s : State) : (complete s).inProgress = s.inProgress := rfl
@[simp] theorem complete_ret (s : State) : (complete s).ret = s.ret := rfl
@[simp] theorem complete_occurred (s : State) : (complete s).occurred = s.occurred := rfl
@[simp] theorem complete_diag (s : State) : (complete s).diag = s.diag := rfl
@[simp] theorem complete_sinkCalls (s : State) : (complete s).sinkCalls = s.sinkCalls := rfl
@[simp] theorem complete_requests (s : State) : (complete s).requests = s.requests := rfl
@[simp] theorem complete_replies (s : State) : (complete s).replies = s.replies := rfl
@[simp] theorem complete_sinkTick (s : State) : (complete s).sinkTick = s.sinkTick := rfl

/-! ### `countDown` -/

@[simp] theorem countDown_cfg (s : State) : (countDown s).cfg = s.cfg := rfl
@[simp] theorem countDown_pktBuf (s : State) : (countDown s).pktBuf = s.pktBuf := rfl
@[simp] theorem countDown_pktLen (s : State) : (countDown s).pktLen = s.pktLen := rfl
@[simp] theorem countDown_firstFlushDone (s : State) : (countDown s).firstFlushDone = s.firstFlushDone := rfl
@[simp] theorem countDown_zeroLenLogged (s : State) : (countDown s).zeroLenLogged = s.zeroLenLogged := rfl
@[simp] theorem countDown_curTs (s : State) : (countDown s).curTs = s.curTs := rfl
@[simp] theorem countDown_cidx (s : State) : (countDown s).cidx = s.cidx := rfl
@[simp] theorem countDown_rd (s : State) : (countDown s).rd = s.rd := rfl
@[simp] theorem countDown_sbSvc (s : State) : (countDown s).sbSvc = s.sbSvc := rfl
@[simp] theorem countDown_sbLen (s : State) : (countDown s).sbLen = s.sbLen := rfl
@[simp] theorem countDown_sbEnd (s : State) : (countDown s).sbEnd = s.sbEnd := rfl
@[simp] theorem countDown_curSeq (s : State) : (countDown s).curSeq = s.curSeq := rfl
@[simp] theorem countDown_mode (s : State) : (countDown s).mode = s.mode := rfl
@[simp] theorem countDown_remaining (s : State) : (countDown s).remaining = payloadCount (s.remaining.val - 1) := rfl
@[simp] theorem countDown_cmd (s : State) : (countDown s).cmd = s.cmd := rfl
@[simp] theorem countDown_extPhase (s : State) : (countDown s).extPhase = s.extPhase := rfl
@[simp] theorem countDown_acc (s : State) : (countDown s).acc = s.acc := rfl
@[simp] theorem countDown_accN (s : State) : (countDown s).accN = s.accN := rfl
@[simp] theorem countDown_lastSeq (s : State) : (countDown s).lastSeq = s.lastSeq := rfl
@[simp] theorem countDown_lastSeqValid (s : State) : (countDown s).lastSeqValid = s.lastSeqValid := rfl
@[simp] theorem countDown_style (s : State) : (countDown s).style = s.style := rfl
@[simp] theorem countDown_ambiguous (s : State) : (countDown s).ambiguous = s.ambiguous := rfl
@[simp] theorem countDown_cnt (s : State) : (countDown s).cnt = s.cnt := rfl
@[simp] theorem countDown_fatal (s : State) : (countDown s).fatal = s.fatal := rfl
@[simp] theorem countDown_fatalCause (s : State) : (countDown s).fatalCause = s.fatalCause := rfl
@[simp] theorem countDown_terminated (s : State) : (countDown s).terminated = s.terminated := rfl
@[simp] theorem countDown_out (s : State) : (countDown s).out = s.out := rfl
@[simp] theorem countDown_expectN (s : State) : (countDown s).expectN = s.expectN := rfl
@[simp] theorem countDown_ok (s : State) : (countDown s).ok = s.ok := rfl
@[simp] theorem countDown_pool (s : State) : (countDown s).pool = s.pool := rfl
@[simp] theorem countDown_sinks (s : State) : (countDown s).sinks = s.sinks := rfl
@[simp] theorem countDown_phase (s : State) : (countDown s).phase = s.phase := rfl
@[simp] theorem countDown_inProgress (s : State) : (countDown s).inProgress = s.inProgress := rfl
@[simp] theorem countDown_ret (s : State) : (countDown s).ret = s.ret := rfl
@[simp] theorem countDown_occurred (s : State) : (countDown s).occurred = s.occurred := rfl
@[simp] theorem countDown_diag (s : State) : (countDown s).diag = s.diag := rfl
@[simp] theorem countDown_sinkCalls (s : State) : (countDown s).sinkCalls = s.sinkCalls := rfl
@[simp] theorem countDown_requests (s : State) : (countDown s).requests = s.requests := rfl
@[simp] theorem countDown_replies (s : State) : (countDown s).replies = s.replies := rfl
@[simp] theorem countDown_sinkTick (s : State) : (countDown s).sinkTick = s.sinkTick := rfl

/-! ### `collect` -/

@[simp] theorem collect_cfg (b : Byte) (s : State) : (collect b s).cfg = s.cfg := rfl
@[simp] theorem collect_pktBuf (b : Byte) (s : State) : (collect b s).pktBuf = s.pktBuf := rfl
@[simp] theorem collect_pktLen (b : Byte) (s : State) : (collect b s).pktLen = s.pktLen := rfl
@[simp] theorem collect_firstFlushDone (b : Byte) (s : State) : (collect b s).firstFlushDone = s.firstFlushDone := rfl
@[simp] theorem collect_zeroLenLogged (b : Byte) (s : State) : (collect b s).zeroLenLogged = s.zeroLenLogged := rfl
@[simp] theorem collect_curTs (b : Byte) (s : State) : (collect b s).curTs = s.curTs := rfl
@[simp] theorem collect_cidx (b : Byte) (s : State) : (collect b s).cidx = s.cidx := rfl
@[simp] theorem collect_rd (b : Byte) (s : State) : (collect b s).rd = s.rd := rfl
@[simp] theorem collect_sbSvc (b : Byte) (s : State) : (collect b s).sbSvc = s.sbSvc := rfl
@[simp] theorem collect_sbLen (b : Byte) (s : State) : (collect b s).sbLen = s.sbLen := rfl
@[simp] theorem collect_sbEnd (b : Byte) (s : State) : (collect b s).sbEnd = s.sbEnd := rfl
@[simp] theorem collect_curSeq (b : Byte) (s : State) : (collect b s).curSeq = s.curSeq := rfl
@[simp] theorem collect_mode (b : Byte) (s : State) : (collect b s).mode = s.mode := rfl
@[simp] theorem collect_remaining (b : Byte) (s : State) : (collect b s).remaining = payloadCount (s.remaining.val - 1) := rfl
@[simp] theorem collect_cmd (b : Byte) (s : State) : (collect b s).cmd = s.cmd := rfl
@[simp] theorem collect_extPhase (b : Byte) (s : State) : (collect b s).extPhase = s.extPhase := rfl
@[simp] theorem collect_acc (b : Byte) (s : State) : (collect b s).acc = s.acc.setIfInBounds s.accN.val b := rfl
@[simp] theorem collect_accN (b : Byte) (s : State) : (collect b s).accN = payloadCount (s.accN.val + 1) := rfl
@[simp] theorem collect_lastSeq (b : Byte) (s : State) : (collect b s).lastSeq = s.lastSeq := rfl
@[simp] theorem collect_lastSeqValid (b : Byte) (s : State) : (collect b s).lastSeqValid = s.lastSeqValid := rfl
@[simp] theorem collect_style (b : Byte) (s : State) : (collect b s).style = s.style := rfl
@[simp] theorem collect_ambiguous (b : Byte) (s : State) : (collect b s).ambiguous = s.ambiguous := rfl
@[simp] theorem collect_cnt (b : Byte) (s : State) : (collect b s).cnt = s.cnt := rfl
@[simp] theorem collect_fatal (b : Byte) (s : State) : (collect b s).fatal = s.fatal := rfl
@[simp] theorem collect_fatalCause (b : Byte) (s : State) : (collect b s).fatalCause = s.fatalCause := rfl
@[simp] theorem collect_terminated (b : Byte) (s : State) : (collect b s).terminated = s.terminated := rfl
@[simp] theorem collect_out (b : Byte) (s : State) : (collect b s).out = s.out := rfl
@[simp] theorem collect_expectN (b : Byte) (s : State) : (collect b s).expectN = s.expectN := rfl
@[simp] theorem collect_ok (b : Byte) (s : State) : (collect b s).ok = s.ok := rfl
@[simp] theorem collect_pool (b : Byte) (s : State) : (collect b s).pool = s.pool := rfl
@[simp] theorem collect_sinks (b : Byte) (s : State) : (collect b s).sinks = s.sinks := rfl
@[simp] theorem collect_phase (b : Byte) (s : State) : (collect b s).phase = s.phase := rfl
@[simp] theorem collect_inProgress (b : Byte) (s : State) : (collect b s).inProgress = s.inProgress := rfl
@[simp] theorem collect_ret (b : Byte) (s : State) : (collect b s).ret = s.ret := rfl
@[simp] theorem collect_occurred (b : Byte) (s : State) : (collect b s).occurred = s.occurred := rfl
@[simp] theorem collect_diag (b : Byte) (s : State) : (collect b s).diag = s.diag := rfl
@[simp] theorem collect_sinkCalls (b : Byte) (s : State) : (collect b s).sinkCalls = s.sinkCalls := rfl
@[simp] theorem collect_requests (b : Byte) (s : State) : (collect b s).requests = s.requests := rfl
@[simp] theorem collect_replies (b : Byte) (s : State) : (collect b s).replies = s.replies := rfl
@[simp] theorem collect_sinkTick (b : Byte) (s : State) : (collect b s).sinkTick = s.sinkTick := rfl

/-! ### `appendPair` -/

@[simp] theorem appendPair_cfg (b0 b1 : Byte) (s : State) : (appendPair b0 b1 s).cfg = s.cfg := rfl
@[simp] theorem appendPair_pktBuf (b0 b1 : Byte) (s : State) : (appendPair b0 b1 s).pktBuf = (s.pktBuf.write s.pktLen.val b0).write (s.pktLen.val + 1) b1 := rfl
@[simp] theorem appendPair_pktLen (b0 b1 : Byte) (s : State) : (appendPair b0 b1 s).pktLen = cursor (s.pktLen.val + 2) := rfl
@[simp] theorem appendPair_firstFlushDone (b0 b1 : Byte) (s : State) : (appendPair b0 b1 s).firstFlushDone = s.firstFlushDone := rfl
@[simp] theorem appendPair_zeroLenLogged (b0 b1 : Byte) (s : State) : (appendPair b0 b1 s).zeroLenLogged = s.zeroLenLogged := rfl
@[simp] theorem appendPair_curTs (b0 b1 : Byte) (s : State) : (appendPair b0 b1 s).curTs = s.curTs := rfl
@[simp] theorem appendPair_cidx (b0 b1 : Byte) (s : State) : (appendPair b0 b1 s).cidx = s.cidx := rfl
@[simp] theorem appendPair_rd (b0 b1 : Byte) (s : State) : (appendPair b0 b1 s).rd = s.rd := rfl
@[simp] theorem appendPair_sbSvc (b0 b1 : Byte) (s : State) : (appendPair b0 b1 s).sbSvc = s.sbSvc := rfl
@[simp] theorem appendPair_sbLen (b0 b1 : Byte) (s : State) : (appendPair b0 b1 s).sbLen = s.sbLen := rfl
@[simp] theorem appendPair_sbEnd (b0 b1 : Byte) (s : State) : (appendPair b0 b1 s).sbEnd = s.sbEnd := rfl
@[simp] theorem appendPair_curSeq (b0 b1 : Byte) (s : State) : (appendPair b0 b1 s).curSeq = s.curSeq := rfl
@[simp] theorem appendPair_mode (b0 b1 : Byte) (s : State) : (appendPair b0 b1 s).mode = s.mode := rfl
@[simp] theorem appendPair_remaining (b0 b1 : Byte) (s : State) : (appendPair b0 b1 s).remaining = s.remaining := rfl
@[simp] theorem appendPair_cmd (b0 b1 : Byte) (s : State) : (appendPair b0 b1 s).cmd = s.cmd := rfl
@[simp] theorem appendPair_extPhase (b0 b1 : Byte) (s : State) : (appendPair b0 b1 s).extPhase = s.extPhase := rfl
@[simp] theorem appendPair_acc (b0 b1 : Byte) (s : State) : (appendPair b0 b1 s).acc = s.acc := rfl
@[simp] theorem appendPair_accN (b0 b1 : Byte) (s : State) : (appendPair b0 b1 s).accN = s.accN := rfl
@[simp] theorem appendPair_lastSeq (b0 b1 : Byte) (s : State) : (appendPair b0 b1 s).lastSeq = s.lastSeq := rfl
@[simp] theorem appendPair_lastSeqValid (b0 b1 : Byte) (s : State) : (appendPair b0 b1 s).lastSeqValid = s.lastSeqValid := rfl
@[simp] theorem appendPair_style (b0 b1 : Byte) (s : State) : (appendPair b0 b1 s).style = s.style := rfl
@[simp] theorem appendPair_ambiguous (b0 b1 : Byte) (s : State) : (appendPair b0 b1 s).ambiguous = s.ambiguous := rfl
@[simp] theorem appendPair_cnt (b0 b1 : Byte) (s : State) : (appendPair b0 b1 s).cnt = s.cnt := rfl
@[simp] theorem appendPair_fatal (b0 b1 : Byte) (s : State) : (appendPair b0 b1 s).fatal = s.fatal := rfl
@[simp] theorem appendPair_fatalCause (b0 b1 : Byte) (s : State) : (appendPair b0 b1 s).fatalCause = s.fatalCause := rfl
@[simp] theorem appendPair_terminated (b0 b1 : Byte) (s : State) : (appendPair b0 b1 s).terminated = s.terminated := rfl
@[simp] theorem appendPair_out (b0 b1 : Byte) (s : State) : (appendPair b0 b1 s).out = s.out := rfl
@[simp] theorem appendPair_expectN (b0 b1 : Byte) (s : State) : (appendPair b0 b1 s).expectN = s.expectN := rfl
@[simp] theorem appendPair_ok (b0 b1 : Byte) (s : State) : (appendPair b0 b1 s).ok = s.ok := rfl
@[simp] theorem appendPair_pool (b0 b1 : Byte) (s : State) : (appendPair b0 b1 s).pool = s.pool := rfl
@[simp] theorem appendPair_sinks (b0 b1 : Byte) (s : State) : (appendPair b0 b1 s).sinks = s.sinks := rfl
@[simp] theorem appendPair_phase (b0 b1 : Byte) (s : State) : (appendPair b0 b1 s).phase = s.phase := rfl
@[simp] theorem appendPair_inProgress (b0 b1 : Byte) (s : State) : (appendPair b0 b1 s).inProgress = s.inProgress := rfl
@[simp] theorem appendPair_ret (b0 b1 : Byte) (s : State) : (appendPair b0 b1 s).ret = s.ret := rfl
@[simp] theorem appendPair_occurred (b0 b1 : Byte) (s : State) : (appendPair b0 b1 s).occurred = s.occurred := rfl
@[simp] theorem appendPair_diag (b0 b1 : Byte) (s : State) : (appendPair b0 b1 s).diag = s.diag := rfl
@[simp] theorem appendPair_sinkCalls (b0 b1 : Byte) (s : State) : (appendPair b0 b1 s).sinkCalls = s.sinkCalls := rfl
@[simp] theorem appendPair_requests (b0 b1 : Byte) (s : State) : (appendPair b0 b1 s).requests = s.requests := rfl
@[simp] theorem appendPair_replies (b0 b1 : Byte) (s : State) : (appendPair b0 b1 s).replies = s.replies := rfl
@[simp] theorem appendPair_sinkTick (b0 b1 : Byte) (s : State) : (appendPair b0 b1 s).sinkTick = s.sinkTick := rfl

/-! ### `advance` -/

@[simp] theorem advance_cfg (n : Nat) (s : State) : (advance n s).cfg = s.cfg := rfl
@[simp] theorem advance_pktBuf (n : Nat) (s : State) : (advance n s).pktBuf = s.pktBuf := rfl
@[simp] theorem advance_pktLen (n : Nat) (s : State) : (advance n s).pktLen = s.pktLen := rfl
@[simp] theorem advance_firstFlushDone (n : Nat) (s : State) : (advance n s).firstFlushDone = s.firstFlushDone := rfl
@[simp] theorem advance_zeroLenLogged (n : Nat) (s : State) : (advance n s).zeroLenLogged = s.zeroLenLogged := rfl
@[simp] theorem advance_curTs (n : Nat) (s : State) : (advance n s).curTs = s.curTs := rfl
@[simp] theorem advance_cidx (n : Nat) (s : State) : (advance n s).cidx = s.cidx := rfl
@[simp] theorem advance_rd (n : Nat) (s : State) : (advance n s).rd = cursor (s.rd.val + n) := rfl
@[simp] theorem advance_sbSvc (n : Nat) (s : State) : (advance n s).sbSvc = s.sbSvc := rfl
@[simp] theorem advance_sbLen (n : Nat) (s : State) : (advance n s).sbLen = s.sbLen := rfl
@[simp] theorem advance_sbEnd (n : Nat) (s : State) : (advance n s).sbEnd = s.sbEnd := rfl
@[simp] theorem advance_curSeq (n : Nat) (s : State) : (advance n s).curSeq = s.curSeq := rfl
@[simp] theorem advance_mode (n : Nat) (s : State) : (advance n s).mode = s.mode := rfl
@[simp] theorem advance_remaining (n : Nat) (s : State) : (advance n s).remaining = s.remaining := rfl
@[simp] theorem advance_cmd (n : Nat) (s : State) : (advance n s).cmd = s.cmd := rfl
@[simp] theorem advance_extPhase (n : Nat) (s : State) : (advance n s).extPhase = s.extPhase := rfl
@[simp] theorem advance_acc (n : Nat) (s : State) : (advance n s).acc = s.acc := rfl
@[simp] theorem advance_accN (n : Nat) (s : State) : (advance n s).accN = s.accN := rfl
@[simp] theorem advance_lastSeq (n : Nat) (s : State) : (advance n s).lastSeq = s.lastSeq := rfl
@[simp] theorem advance_lastSeqValid (n : Nat) (s : State) : (advance n s).lastSeqValid = s.lastSeqValid := rfl
@[simp] theorem advance_style (n : Nat) (s : State) : (advance n s).style = s.style := rfl
@[simp] theorem advance_ambiguous (n : Nat) (s : State) : (advance n s).ambiguous = s.ambiguous := rfl
@[simp] theorem advance_cnt (n : Nat) (s : State) : (advance n s).cnt = s.cnt := rfl
@[simp] theorem advance_fatal (n : Nat) (s : State) : (advance n s).fatal = s.fatal := rfl
@[simp] theorem advance_fatalCause (n : Nat) (s : State) : (advance n s).fatalCause = s.fatalCause := rfl
@[simp] theorem advance_terminated (n : Nat) (s : State) : (advance n s).terminated = s.terminated := rfl
@[simp] theorem advance_out (n : Nat) (s : State) : (advance n s).out = s.out := rfl
@[simp] theorem advance_expectN (n : Nat) (s : State) : (advance n s).expectN = s.expectN := rfl
@[simp] theorem advance_ok (n : Nat) (s : State) : (advance n s).ok = s.ok := rfl
@[simp] theorem advance_pool (n : Nat) (s : State) : (advance n s).pool = s.pool := rfl
@[simp] theorem advance_sinks (n : Nat) (s : State) : (advance n s).sinks = s.sinks := rfl
@[simp] theorem advance_phase (n : Nat) (s : State) : (advance n s).phase = s.phase := rfl
@[simp] theorem advance_inProgress (n : Nat) (s : State) : (advance n s).inProgress = s.inProgress := rfl
@[simp] theorem advance_ret (n : Nat) (s : State) : (advance n s).ret = s.ret := rfl
@[simp] theorem advance_occurred (n : Nat) (s : State) : (advance n s).occurred = s.occurred := rfl
@[simp] theorem advance_diag (n : Nat) (s : State) : (advance n s).diag = s.diag := rfl
@[simp] theorem advance_sinkCalls (n : Nat) (s : State) : (advance n s).sinkCalls = s.sinkCalls := rfl
@[simp] theorem advance_requests (n : Nat) (s : State) : (advance n s).requests = s.requests := rfl
@[simp] theorem advance_replies (n : Nat) (s : State) : (advance n s).replies = s.replies := rfl
@[simp] theorem advance_sinkTick (n : Nat) (s : State) : (advance n s).sinkTick = s.sinkTick := rfl

/-! ### `stopParse` -/

@[simp] theorem stopParse_cfg (s : State) : (stopParse s).cfg = s.cfg := rfl
@[simp] theorem stopParse_pktBuf (s : State) : (stopParse s).pktBuf = s.pktBuf := rfl
@[simp] theorem stopParse_pktLen (s : State) : (stopParse s).pktLen = s.pktLen := rfl
@[simp] theorem stopParse_firstFlushDone (s : State) : (stopParse s).firstFlushDone = s.firstFlushDone := rfl
@[simp] theorem stopParse_zeroLenLogged (s : State) : (stopParse s).zeroLenLogged = s.zeroLenLogged := rfl
@[simp] theorem stopParse_curTs (s : State) : (stopParse s).curTs = s.curTs := rfl
@[simp] theorem stopParse_cidx (s : State) : (stopParse s).cidx = s.cidx := rfl
@[simp] theorem stopParse_rd (s : State) : (stopParse s).rd = s.rd := rfl
@[simp] theorem stopParse_sbSvc (s : State) : (stopParse s).sbSvc = s.sbSvc := rfl
@[simp] theorem stopParse_sbLen (s : State) : (stopParse s).sbLen = s.sbLen := rfl
@[simp] theorem stopParse_sbEnd (s : State) : (stopParse s).sbEnd = s.sbEnd := rfl
@[simp] theorem stopParse_curSeq (s : State) : (stopParse s).curSeq = s.curSeq := rfl
@[simp] theorem stopParse_mode (s : State) : (stopParse s).mode = s.mode := rfl
@[simp] theorem stopParse_remaining (s : State) : (stopParse s).remaining = s.remaining := rfl
@[simp] theorem stopParse_cmd (s : State) : (stopParse s).cmd = s.cmd := rfl
@[simp] theorem stopParse_extPhase (s : State) : (stopParse s).extPhase = s.extPhase := rfl
@[simp] theorem stopParse_acc (s : State) : (stopParse s).acc = s.acc := rfl
@[simp] theorem stopParse_accN (s : State) : (stopParse s).accN = s.accN := rfl
@[simp] theorem stopParse_lastSeq (s : State) : (stopParse s).lastSeq = s.lastSeq := rfl
@[simp] theorem stopParse_lastSeqValid (s : State) : (stopParse s).lastSeqValid = s.lastSeqValid := rfl
@[simp] theorem stopParse_style (s : State) : (stopParse s).style = s.style := rfl
@[simp] theorem stopParse_ambiguous (s : State) : (stopParse s).ambiguous = s.ambiguous := rfl
@[simp] theorem stopParse_cnt (s : State) : (stopParse s).cnt = s.cnt := rfl
@[simp] theorem stopParse_fatal (s : State) : (stopParse s).fatal = s.fatal := rfl
@[simp] theorem stopParse_fatalCause (s : State) : (stopParse s).fatalCause = s.fatalCause := rfl
@[simp] theorem stopParse_terminated (s : State) : (stopParse s).terminated = s.terminated := rfl
@[simp] theorem stopParse_out (s : State) : (stopParse s).out = s.out := rfl
@[simp] theorem stopParse_expectN (s : State) : (stopParse s).expectN = s.expectN := rfl
@[simp] theorem stopParse_ok (s : State) : (stopParse s).ok = s.ok := rfl
@[simp] theorem stopParse_pool (s : State) : (stopParse s).pool = s.pool := rfl
@[simp] theorem stopParse_sinks (s : State) : (stopParse s).sinks = s.sinks := rfl
@[simp] theorem stopParse_phase (s : State) : (stopParse s).phase = .parsed := rfl
@[simp] theorem stopParse_inProgress (s : State) : (stopParse s).inProgress = s.inProgress := rfl
@[simp] theorem stopParse_ret (s : State) : (stopParse s).ret = s.ret := rfl
@[simp] theorem stopParse_occurred (s : State) : (stopParse s).occurred = s.occurred := rfl
@[simp] theorem stopParse_diag (s : State) : (stopParse s).diag = s.diag := rfl
@[simp] theorem stopParse_sinkCalls (s : State) : (stopParse s).sinkCalls = s.sinkCalls := rfl
@[simp] theorem stopParse_requests (s : State) : (stopParse s).requests = s.requests := rfl
@[simp] theorem stopParse_replies (s : State) : (stopParse s).replies = s.replies := rfl
@[simp] theorem stopParse_sinkTick (s : State) : (stopParse s).sinkTick = s.sinkTick := rfl

/-! ### `nextConstruct` -/

@[simp] theorem nextConstruct_cfg (s : State) : (nextConstruct s).cfg = s.cfg := rfl
@[simp] theorem nextConstruct_pktBuf (s : State) : (nextConstruct s).pktBuf = s.pktBuf := rfl
@[simp] theorem nextConstruct_pktLen (s : State) : (nextConstruct s).pktLen = s.pktLen := rfl
@[simp] theorem nextConstruct_firstFlushDone (s : State) : (nextConstruct s).firstFlushDone = s.firstFlushDone := rfl
@[simp] theorem nextConstruct_zeroLenLogged (s : State) : (nextConstruct s).zeroLenLogged = s.zeroLenLogged := rfl
@[simp] theorem nextConstruct_curTs (s : State) : (nextConstruct s).curTs = s.curTs := rfl
@[simp] theorem nextConstruct_cidx (s : State) : (nextConstruct s).cidx = s.cidx + 1 := rfl
@[simp] theorem nextConstruct_rd (s : State) : (nextConstruct s).rd = s.rd := rfl
@[simp] theorem nextConstruct_sbSvc (s : State) : (nextConstruct s).sbSvc = s.sbSvc := rfl
@[simp] theorem nextConstruct_sbLen (s : State) : (nextConstruct s).sbLen = s.sbLen := rfl
@[simp] theorem nextConstruct_sbEnd (s : State) : (nextConstruct s).sbEnd = s.sbEnd := rfl
@[simp] theorem nextConstruct_curSeq (s : State) : (nextConstruct s).curSeq = s.curSeq := rfl
@[simp] theorem nextConstruct_mode (s : State) : (nextConstruct s).mode = s.mode := rfl
@[simp] theorem nextConstruct_remaining (s : State) : (nextConstruct s).remaining = s.remaining := rfl
@[simp] theorem nextConstruct_cmd (s : State) : (nextConstruct s).cmd = s.cmd := rfl
@[simp] theorem nextConstruct_extPhase (s : State) : (nextConstruct s).extPhase = s.extPhase := rfl
@[simp] theorem nextConstruct_acc (s : State) : (nextConstruct s).acc = s.acc := rfl
@[simp] theorem nextConstruct_accN (s : State) : (nextConstruct s).accN = s.accN := rfl
@[simp] theorem nextConstruct_lastSeq (s : State) : (nextConstruct s).lastSeq = s.lastSeq := rfl
@[simp] theorem nextConstruct_lastSeqValid (s : State) : (nextConstruct s).lastSeqValid = s.lastSeqValid := rfl
@[simp] theorem nextConstruct_style (s : State) : (nextConstruct s).style = s.style := rfl
@[simp] theorem nextConstruct_ambiguous (s : State) : (nextConstruct s).ambiguous = s.ambiguous := rfl
@[simp] theorem nextConstruct_cnt (s : State) : (nextConstruct s).cnt = s.cnt := rfl
@[simp] theorem nextConstruct_fatal (s : State) : (nextConstruct s).fatal = s.fatal := rfl
@[simp] theorem nextConstruct_fatalCause (s : State) : (nextConstruct s).fatalCause = s.fatalCause := rfl
@[simp] theorem nextConstruct_terminated (s : State) : (nextConstruct s).terminated = s.terminated := rfl
@[simp] theorem nextConstruct_out (s : State) : (nextConstruct s).out = s.out := rfl
@[simp] theorem nextConstruct_expectN (s : State) : (nextConstruct s).expectN = s.expectN := rfl
@[simp] theorem nextConstruct_ok (s : State) : (nextConstruct s).ok = s.ok := rfl
@[simp] theorem nextConstruct_pool (s : State) : (nextConstruct s).pool = s.pool := rfl
@[simp] theorem nextConstruct_sinks (s : State) : (nextConstruct s).sinks = s.sinks := rfl
@[simp] theorem nextConstruct_phase (s : State) : (nextConstruct s).phase = s.phase := rfl
@[simp] theorem nextConstruct_inProgress (s : State) : (nextConstruct s).inProgress = s.inProgress := rfl
@[simp] theorem nextConstruct_ret (s : State) : (nextConstruct s).ret = s.ret := rfl
@[simp] theorem nextConstruct_occurred (s : State) : (nextConstruct s).occurred = s.occurred := rfl
@[simp] theorem nextConstruct_diag (s : State) : (nextConstruct s).diag = s.diag := rfl
@[simp] theorem nextConstruct_sinkCalls (s : State) : (nextConstruct s).sinkCalls = s.sinkCalls := rfl
@[simp] theorem nextConstruct_requests (s : State) : (nextConstruct s).requests = s.requests := rfl
@[simp] theorem nextConstruct_replies (s : State) : (nextConstruct s).replies = s.replies := rfl
@[simp] theorem nextConstruct_sinkTick (s : State) : (nextConstruct s).sinkTick = s.sinkTick := rfl

/-! ### `endFlush` -/

@[simp] theorem endFlush_cfg (s : State) : (endFlush s).cfg = s.cfg := rfl
@[simp] theorem endFlush_pktBuf (s : State) : (endFlush s).pktBuf = s.pktBuf := rfl
@[simp] theorem endFlush_pktLen (s : State) : (endFlush s).pktLen = cursor 0 := rfl
@[simp] theorem endFlush_firstFlushDone (s : State) : (endFlush s).firstFlushDone = true := rfl
@[simp] theorem endFlush_zeroLenLogged (s : State) : (endFlush s).zeroLenLogged = s.zeroLenLogged := rfl
@[simp] theorem endFlush_curTs (s : State) : (endFlush s).curTs = s.curTs := rfl
@[simp] theorem endFlush_cidx (s : State) : (endFlush s).cidx = s.cidx := rfl
@[simp] theorem endFlush_rd (s : State) : (endFlush s).rd = s.rd := rfl
@[simp] theorem endFlush_sbSvc (s : State) : (endFlush s).sbSvc = s.sbSvc := rfl
@[simp] theorem endFlush_sbLen (s : State) : (endFlush s).sbLen = s.sbLen := rfl
@[simp] theorem endFlush_sbEnd (s : State) : (endFlush s).sbEnd = s.sbEnd := rfl
@[simp] theorem endFlush_curSeq (s : State) : (endFlush s).curSeq = s.curSeq := rfl
@[simp] theorem endFlush_mode (s : State) : (endFlush s).mode = s.mode := rfl
@[simp] theorem endFlush_remaining (s : State) : (endFlush s).remaining = s.remaining := rfl
@[simp] theorem endFlush_cmd (s : State) : (endFlush s).cmd = s.cmd := rfl
@[simp] theorem endFlush_extPhase (s : State) : (endFlush s).extPhase = s.extPhase := rfl
@[simp] theorem endFlush_acc (s : State) : (endFlush s).acc = s.acc := rfl
@[simp] theorem endFlush_accN (s : State) : (endFlush s).accN = s.accN := rfl
@[simp] theorem endFlush_lastSeq (s : State) : (endFlush s).lastSeq = s.lastSeq := rfl
@[simp] theorem endFlush_lastSeqValid (s : State) : (endFlush s).lastSeqValid = s.lastSeqValid := rfl
@[simp] theorem endFlush_style (s : State) : (endFlush s).style = s.style := rfl
@[simp] theorem endFlush_ambiguous (s : State) : (endFlush s).ambiguous = s.ambiguous := rfl
@[simp] theorem endFlush_cnt (s : State) : (endFlush s).cnt = s.cnt := rfl
@[simp] theorem endFlush_fatal (s : State) : (endFlush s).fatal = s.fatal := rfl
@[simp] theorem endFlush_fatalCause (s : State) : (endFlush s).fatalCause = s.fatalCause := rfl
@[simp] theorem endFlush_terminated (s : State) : (endFlush s).terminated = s.terminated := rfl
@[simp] theorem endFlush_out (s : State) : (endFlush s).out = s.out := rfl
@[simp] theorem endFlush_expectN (s : State) : (endFlush s).expectN = s.expectN := rfl
@[simp] theorem endFlush_ok (s : State) : (endFlush s).ok = s.ok := rfl
@[simp] theorem endFlush_pool (s : State) : (endFlush s).pool = s.pool := rfl
@[simp] theorem endFlush_sinks (s : State) : (endFlush s).sinks = s.sinks := rfl
@[simp] theorem endFlush_phase (s : State) : (endFlush s).phase = phaseAfterFlush s := rfl
@[simp] theorem endFlush_inProgress (s : State) : (endFlush s).inProgress = s.inProgress := rfl
@[simp] theorem endFlush_ret (s : State) : (endFlush s).ret = s.ret := rfl
@[simp] theorem endFlush_occurred (s : State) : (endFlush s).occurred = s.occurred := rfl
@[simp] theorem endFlush_diag (s : State) : (endFlush s).diag = s.diag := rfl
@[simp] theorem endFlush_sinkCalls (s : State) : (endFlush s).sinkCalls = s.sinkCalls := rfl
@[simp] theorem endFlush_requests (s : State) : (endFlush s).requests = s.requests := rfl
@[simp] theorem endFlush_replies (s : State) : (endFlush s).replies = s.replies := rfl
@[simp] theorem endFlush_sinkTick (s : State) : (endFlush s).sinkTick = s.sinkTick := rfl

end Sys2Proof.Machine
end

