-- ==== Sys2Proof/Laws/Ops.lean ====
section
/-! SUPPORT. For each shared operation one lemma that says everything it can do. -/

namespace Sys2Proof.Machine

/-! ### Cursors and sequencing -/

@[simp] theorem cursor_val (n : Nat) : (cursor n).val = min n 128 := rfl

theorem cursor_val_of_le {n : Nat} (h : n ≤ 128) : (cursor n).val = n := by simp [h]

@[simp] theorem payloadCount_val (n : Nat) : (payloadCount n).val = min n 6 := rfl

theorem payloadCount_val_of_le {n : Nat} (h : n ≤ 6) : (payloadCount n).val = n := by simp [h]

@[simp] theorem andThen_of_live {s : State} (h : s.fatal = false) (f : State → State) :
    s.andThen f = f s := by simp [State.andThen, h]

@[simp] theorem andThen_of_halted {s : State} (h : s.fatal = true) (f : State → State) :
    s.andThen f = s := by simp [State.andThen, h]

/-- What the next line of a rule can do: nothing where the machine is halted, its effect otherwise. -/
theorem andThen_cases (s : State) (f : State → State) :
    (s.fatal = true ∧ s.andThen f = s) ∨ (s.fatal = false ∧ s.andThen f = f s) := by
  cases h : s.fatal <;> simp [h]

/-- A property that a state has and the next line keeps. -/
theorem andThen_induct {P : State → Prop} {s : State} {f : State → State} (h : P s)
    (hf : s.fatal = false → P s → P (f s)) : P (s.andThen f) := by
  rcases andThen_cases s f with ⟨_, h2⟩ | ⟨h1, h2⟩
  · rw [h2]; exact h
  · rw [h2]; exact hf h1 h

/-- An instruction answers a next state exactly when the machine is not halted, and then its effect. -/
theorem live_eq_next {f : State → State} {s t : State} :
    live f s = .next t ↔ s.fatal = false ∧ t = f s := by
  cases h : s.fatal <;> simp [live, h, eq_comm]

theorem live_of_live {f : State → State} {s : State} (h : s.fatal = false) : live f s = .next (f s) := by
  simp [live, h]

theorem live_of_halted {f : State → State} {s : State} (h : s.fatal = true) :
    live f s = .fault .halted := by simp [live, h]

theorem operation_eq_next {f : State → State} {s t : State} :
    operation f s = .next t ↔ s.fatal = false ∧ t = f { s with ret := none } := live_eq_next

/-- An upstream or wiring operation answers a next state exactly between operations. -/
theorem hostOperation_eq_next {f : State → State} {s t : State} :
    hostOperation f s = .next t ↔
      s.fatal = false ∧ s.phase = .host ∧ t = f { s with ret := none } := by
  unfold hostOperation
  cases h : s.fatal
  · by_cases hp : s.phase = .host
    · simp [hp, operation_eq_next, h]
    · simp [hp]
  · simp

/-! ### The substrate -/

/-- A handle names a slot exactly when it is not `NULL`, in range, and the slot is in use. -/
theorem slotOf_eq_some {s : State} {h : Handle} {i : Nat} {p : Slot} :
    slotOf s h = some (i, p) ↔ h = some i ∧ s.pool[i]? = some p ∧ p.inUse = true := by
  cases h with
  | none => simp [slotOf]
  | some k =>
    simp only [slotOf, Option.some.injEq]
    split
    · next hk => constructor
                 · intro h; cases h
                 · rintro ⟨rfl, h2, _⟩; rw [hk] at h2; cases h2
    · next q hk =>
      constructor
      · intro h
        split at h
        · next hq => cases h; exact ⟨rfl, hk, hq⟩
        · cases h
      · rintro ⟨rfl, h2, h3⟩
        rw [hk] at h2; cases h2; simp [h3]

theorem withSlot_of_some {s : State} {h : Handle} {i : Nat} {p : Slot} {f : Nat → Slot → State → State}
    (hs : slotOf s h = some (i, p)) : withSlot h f s = f i p s := by simp [withSlot, hs]

theorem withSlot_of_none {s : State} {h : Handle} {f : Nat → Slot → State → State}
    (hs : slotOf s h = none) : withSlot h f s = raiseFatal .contract s := by simp [withSlot, hs]

/-- What an operation on a handle can do: `F_CONTRACT`, or the operation on the slot in use. -/
theorem withSlot_cases (h : Handle) (f : Nat → Slot → State → State) (s : State) :
    (slotOf s h = none ∧ withSlot h f s = raiseFatal .contract s) ∨
    (∃ i p, h = some i ∧ s.pool[i]? = some p ∧ p.inUse = true ∧ withSlot h f s = f i p s) := by
  cases hs : slotOf s h with
  | none => exact .inl ⟨rfl, withSlot_of_none hs⟩
  | some q =>
    obtain ⟨h1, h2, h3⟩ := slotOf_eq_some.1 hs
    exact .inr ⟨q.1, q.2, h1, h2, h3, withSlot_of_some hs⟩

/-- What `Append` can do (R132). -/
theorem append_cases (h : Handle) (v : Element) (s : State) :
    append h v s = raiseFatal .contract s ∨ append h v s = raiseFatal .countMismatch s ∨
    (∃ i p, h = some i ∧ s.pool[i]? = some p ∧ p.inUse = true ∧ p.numElements ≠ p.maxNumElements ∧
      append h v s = setSlot i { p with data := p.data ++ [v] } s) := by
  rcases withSlot_cases h _ s with ⟨_, h2⟩ | ⟨i, p, h1, h2, h3, h4⟩
  · exact .inl h2
  · by_cases hn : p.numElements = p.maxNumElements
    · exact .inr (.inl (by rw [append, h4, if_pos hn]))
    · exact .inr (.inr ⟨i, p, h1, h2, h3, hn, by rw [append, h4, if_neg hn]⟩)

/-- What `Release` can do (R134). -/
theorem release_cases (h : Handle) (s : State) :
    release h s = raiseFatal .contract s ∨
    (∃ i p, h = some i ∧ s.pool[i]? = some p ∧ p.inUse = true ∧ p.readers ≠ 0 ∧
      release h s =
        setSlot i { p with readers := p.readers - 1, inUse := decide (p.readers - 1 ≠ 0) } s) := by
  rcases withSlot_cases h _ s with ⟨_, h2⟩ | ⟨i, p, h1, h2, h3, h4⟩
  · exact .inl h2
  · by_cases hn : p.readers = 0
    · exact .inl (by rw [release, h4, if_pos hn])
    · exact .inr ⟨i, p, h1, h2, h3, hn, by rw [release, h4, if_neg hn]⟩

/-- What `AddReader` can do (R133). -/
theorem addReader_cases (h : Handle) (s : State) :
    addReader h s = raiseFatal .contract s ∨
    (∃ i p, h = some i ∧ s.pool[i]? = some p ∧ p.inUse = true ∧
      addReader h s = setSlot i { p with readers := p.readers + 1 } s) := by
  rcases withSlot_cases h _ s with ⟨_, h2⟩ | ⟨i, p, h1, h2, h3, h4⟩
  · exact .inl h2
  · exact .inr ⟨i, p, h1, h2, h3, h4⟩

/-- What `SetTimestamp` can do (R132). -/
theorem setTimestamp_cases (h : Handle) (t : Timestamp) (s : State) :
    setTimestamp h t s = raiseFatal .contract s ∨
    (∃ i p, h = some i ∧ s.pool[i]? = some p ∧ p.inUse = true ∧
      setTimestamp h t s = setSlot i { p with ts := t } s) := by
  rcases withSlot_cases h _ s with ⟨_, h2⟩ | ⟨i, p, h1, h2, h3, h4⟩
  · exact .inl h2
  · exact .inr ⟨i, p, h1, h2, h3, h4⟩

/-- What `Allocate` can do (R131): the pool is exhausted, or a free slot is taken. -/
theorem allocate_cases (type : BufType) (capacity : Nat) (s : State) :
    ((∀ p ∈ s.pool, p.inUse = true) ∧
      allocate type capacity s = (none, raiseFatal .poolExhausted s)) ∨
    (∃ i p, s.pool[i]? = some p ∧ p.inUse = false ∧
      allocate type capacity s = (some i, setSlot i (freshSlot type capacity) s)) := by
  unfold allocate freeSlot
  cases h : s.pool.findIdx? fun p => !p.inUse with
  | none => exact .inl ⟨by simpa [List.findIdx?_eq_none_iff] using h, rfl⟩
  | some i =>
    obtain ⟨hi, hp, _⟩ := List.findIdx?_eq_some_iff_getElem.1 h
    exact .inr ⟨i, s.pool[i], List.getElem?_eq_getElem hi, by simpa using hp, rfl⟩

/-- What `emit` can do (R14, R132, R198). -/
theorem emit_cases (body : Body) (s : State) :
    (∃ c, emit body s = raiseFatal c s) ∨
    (∃ i p, s.out = some i ∧ s.pool[i]? = some p ∧ p.inUse = true ∧ p.numElements ≠ p.maxNumElements ∧
      emit body s =
        setSlot i { p with data := p.data ++ [.unit { svc := s.sbSvc, seq := s.curSeq, body := body }] } s) := by
  unfold emit
  cases ho : s.out with
  | none => exact .inl ⟨_, rfl⟩
  | some i =>
    rcases append_cases (some i) (.unit { svc := s.sbSvc, seq := s.curSeq, body := body }) s with
      h | h | ⟨k, p, h1, h2, h3, h4, h5⟩
    · exact .inl ⟨_, h⟩
    · exact .inl ⟨_, h⟩
    · cases h1
      exact .inr ⟨i, p, rfl, h2, h3, h4, h5⟩

/-- Where there is an output buffer with room, `emit` appends the unit to it. -/
theorem emit_of_room {body : Body} {s : State} {i : Nat} {p : Slot} (ho : s.out = some i)
    (hp : s.pool[i]? = some p) (hu : p.inUse = true) (hn : p.numElements ≠ p.maxNumElements) :
    emit body s =
      setSlot i { p with data := p.data ++ [.unit { svc := s.sbSvc, seq := s.curSeq, body := body }] } s := by
  have hs : slotOf s (some i) = some (i, p) := slotOf_eq_some.2 ⟨rfl, hp, hu⟩
  simp [emit, ho, append, withSlot_of_some hs, hn]

/-! ### The environment -/

/-- An answer of the environment changes nothing but the script it is read from. -/
theorem nextReply_state (given : Handle) (s : State) :
    ∃ r n, (nextReply given s).2 = { s with replies := r, sinkTick := n } := by
  unfold nextReply
  cases h : s.replies with
  | nil => exact ⟨[], s.sinkTick + 1, by simp [← h]⟩
  | cons a rest => exact ⟨rest, s.sinkTick, rfl⟩

/-- The byte of an input buffer is the element its slot holds, and a free value beyond them (R61, log 25). -/
theorem inbufByte_cases (s : State) (inbuf n : Nat) :
    (∃ p e, s.pool[inbuf]? = some p ∧ p.data[n]? = some e ∧ inbufByte s inbuf n = elementByte n e) ∨
    ((∀ p, s.pool[inbuf]? = some p → p.numElements ≤ n) ∧
      inbufByte s inbuf n = Config.inbufBeyond s.sinkCalls.length n) := by
  unfold inbufByte
  cases hp : s.pool[inbuf]? with
  | none => exact .inr ⟨by simp, by simp [Slot.free]⟩
  | some p =>
    cases he : p.data[n]? with
    | none => exact .inr ⟨by simpa [Slot.numElements] using he, by simp [he]⟩
    | some e => exact .inl ⟨p, e, rfl, he, by simp [he]⟩

/-! ### The decoder -/

theorem feed_nil (s : State) : feed [] s = s := rfl

theorem feed_cons_of_live {b : Byte} {rest : List Byte} {s : State} (h : s.fatal = false) :
    feed (b :: rest) s = feed rest (consume b s) := by simp [feed, h]

theorem feed_of_halted {bytes : List Byte} {s : State} (h : s.fatal = true) : feed bytes s = s := by
  cases bytes <;> simp [feed, h]

/-- A code whose bytes all lie in its block is fed whole. -/
theorem runCode_of_fits {bytes : List Byte} {s : State}
    (h : s.rd.val + bytes.length ≤ s.sbEnd.val) :
    runCode bytes s =
      (feed bytes s).andThen fun t => if t.rd.val < t.sbEnd.val then t else endOfBytes t := by
  rw [runCode, List.take_of_length_le (by omega)]

end Sys2Proof.Machine
end

