-- ==== Sys2Proof/Laws/PerInstr.lean ====
section
/-! SUPPORT. Statements made per instruction. -/

namespace Sys2Proof.Laws

/-- The encoder writes as many bytes as opcode_table.json gives the row. -/
def EncodedLength.Statement (i : Instr) : Prop :=
  ∀ t : Tags, (encode t i).length = i.tableLength

theorem EncodedLength.ps (b0 b1 : Byte) :
    EncodedLength.Statement (.ps b0 b1) := fun _ => rfl

theorem EncodedLength.psInvalid (b0 b1 : Byte) :
    EncodedLength.Statement (.psInvalid b0 b1) := fun _ => rfl

theorem EncodedLength.pd (b0 b1 : Byte) :
    EncodedLength.Statement (.pd b0 b1) := fun _ => rfl

theorem EncodedLength.pdInvalid (b0 b1 : Byte) :
    EncodedLength.Statement (.pdInvalid b0 b1) := fun _ => rfl

theorem EncodedLength.f1 (valid : Bool) (b0 b1 : Byte) :
    EncodedLength.Statement (.f1 valid b0 b1) := fun _ => rfl

theorem EncodedLength.f2 (valid : Bool) (b0 b1 : Byte) :
    EncodedLength.Statement (.f2 valid b0 b1) := fun _ => rfl

theorem EncodedLength.pktHdr (seq : BitVec 2) (code : BitVec 6) :
    EncodedLength.Statement (.pktHdr seq code) := fun _ => rfl

theorem EncodedLength.sbNull (svc : BitVec 3) :
    EncodedLength.Statement (.sbNull svc) := fun _ => rfl

theorem EncodedLength.sbSvc0 (size : BitVec 5) :
    EncodedLength.Statement (.sbSvc0 size) := fun _ => rfl

theorem EncodedLength.sbStd (svc : BitVec 3) (size : BitVec 5) :
    EncodedLength.Statement (.sbStd svc size) := fun _ => rfl

theorem EncodedLength.sbExt (size : BitVec 5) (ext : BitVec 6) :
    EncodedLength.Statement (.sbExt size ext) := fun _ => rfl

theorem EncodedLength.nul :
    EncodedLength.Statement (.nul) := fun _ => rfl

theorem EncodedLength.c0Unk1 (code : Byte) :
    EncodedLength.Statement (.c0Unk1 code) := fun _ => rfl

theorem EncodedLength.etx :
    EncodedLength.Statement (.etx) := fun _ => rfl

theorem EncodedLength.bs :
    EncodedLength.Statement (.bs) := fun _ => rfl

theorem EncodedLength.ff :
    EncodedLength.Statement (.ff) := fun _ => rfl

theorem EncodedLength.cr :
    EncodedLength.Statement (.cr) := fun _ => rfl

theorem EncodedLength.hcr :
    EncodedLength.Statement (.hcr) := fun _ => rfl

theorem EncodedLength.ext1C20 (e : Byte) :
    EncodedLength.Statement (.ext1C20 e) := fun _ => rfl

theorem EncodedLength.ext1C21 (e x1 : Byte) :
    EncodedLength.Statement (.ext1C21 e x1) := fun _ => rfl

theorem EncodedLength.ext1C22 (e x1 x2 : Byte) :
    EncodedLength.Statement (.ext1C22 e x1 x2) := fun _ => rfl

theorem EncodedLength.ext1C23 (e x1 x2 x3 : Byte) :
    EncodedLength.Statement (.ext1C23 e x1 x2 x3) := fun _ => rfl

theorem EncodedLength.ext1G2 (e : Byte) :
    EncodedLength.Statement (.ext1G2 e) := fun _ => rfl

theorem EncodedLength.ext1C34 (e x1 x2 x3 x4 : Byte) :
    EncodedLength.Statement (.ext1C34 e x1 x2 x3 x4) := fun _ => rfl

theorem EncodedLength.ext1C35 (e x1 x2 x3 x4 x5 : Byte) :
    EncodedLength.Statement (.ext1C35 e x1 x2 x3 x4 x5) := fun _ => rfl

theorem EncodedLength.ext1C3Var (e : Byte) :
    EncodedLength.Statement (.ext1C3Var e) := fun _ => rfl

theorem EncodedLength.ext1G3 (e : Byte) :
    EncodedLength.Statement (.ext1G3 e) := fun _ => rfl

theorem EncodedLength.c0Rsv2 (code p1 : Byte) :
    EncodedLength.Statement (.c0Rsv2 code p1) := fun _ => rfl

theorem EncodedLength.p16 (p1 p2 : Byte) :
    EncodedLength.Statement (.p16 p1 p2) := fun _ => rfl

theorem EncodedLength.c0Rsv3 (code p1 p2 : Byte) :
    EncodedLength.Statement (.c0Rsv3 code p1 p2) := fun _ => rfl

theorem EncodedLength.g0 (code : Byte) :
    EncodedLength.Statement (.g0 code) := fun _ => rfl

theorem EncodedLength.cw0 :
    EncodedLength.Statement (.cw0) := fun _ => rfl

theorem EncodedLength.cw1 :
    EncodedLength.Statement (.cw1) := fun _ => rfl

theorem EncodedLength.cw2 :
    EncodedLength.Statement (.cw2) := fun _ => rfl

theorem EncodedLength.cw3 :
    EncodedLength.Statement (.cw3) := fun _ => rfl

theorem EncodedLength.cw4 :
    EncodedLength.Statement (.cw4) := fun _ => rfl

theorem EncodedLength.cw5 :
    EncodedLength.Statement (.cw5) := fun _ => rfl

theorem EncodedLength.cw6 :
    EncodedLength.Statement (.cw6) := fun _ => rfl

theorem EncodedLength.cw7 :
    EncodedLength.Statement (.cw7) := fun _ => rfl

theorem EncodedLength.clw (p1 : Byte) :
    EncodedLength.Statement (.clw p1) := fun _ => rfl

theorem EncodedLength.dsw (p1 : Byte) :
    EncodedLength.Statement (.dsw p1) := fun _ => rfl

theorem EncodedLength.hdw (p1 : Byte) :
    EncodedLength.Statement (.hdw p1) := fun _ => rfl

theorem EncodedLength.tgw (p1 : Byte) :
    EncodedLength.Statement (.tgw p1) := fun _ => rfl

theorem EncodedLength.dlw (p1 : Byte) :
    EncodedLength.Statement (.dlw p1) := fun _ => rfl

theorem EncodedLength.dly (p1 : Byte) :
    EncodedLength.Statement (.dly p1) := fun _ => rfl

theorem EncodedLength.dlc :
    EncodedLength.Statement (.dlc) := fun _ => rfl

theorem EncodedLength.rst :
    EncodedLength.Statement (.rst) := fun _ => rfl

theorem EncodedLength.spa (p1 p2 : Byte) :
    EncodedLength.Statement (.spa p1 p2) := fun _ => rfl

theorem EncodedLength.spc (p1 p2 p3 : Byte) :
    EncodedLength.Statement (.spc p1 p2 p3) := fun _ => rfl

theorem EncodedLength.spl (p1 p2 : Byte) :
    EncodedLength.Statement (.spl p1 p2) := fun _ => rfl

theorem EncodedLength.c1Rsv (r : ReservedCode) :
    EncodedLength.Statement (.c1Rsv r) := fun _ => Nat.add_comm _ _

theorem EncodedLength.swa (p1 p2 p3 p4 : Byte) :
    EncodedLength.Statement (.swa p1 p2 p3 p4) := fun _ => rfl

theorem EncodedLength.df0 (p1 p2 p3 p4 p5 p6 : Byte) :
    EncodedLength.Statement (.df0 p1 p2 p3 p4 p5 p6) := fun _ => rfl

theorem EncodedLength.df1 (p1 p2 p3 p4 p5 p6 : Byte) :
    EncodedLength.Statement (.df1 p1 p2 p3 p4 p5 p6) := fun _ => rfl

theorem EncodedLength.df2 (p1 p2 p3 p4 p5 p6 : Byte) :
    EncodedLength.Statement (.df2 p1 p2 p3 p4 p5 p6) := fun _ => rfl

theorem EncodedLength.df3 (p1 p2 p3 p4 p5 p6 : Byte) :
    EncodedLength.Statement (.df3 p1 p2 p3 p4 p5 p6) := fun _ => rfl

theorem EncodedLength.df4 (p1 p2 p3 p4 p5 p6 : Byte) :
    EncodedLength.Statement (.df4 p1 p2 p3 p4 p5 p6) := fun _ => rfl

theorem EncodedLength.df5 (p1 p2 p3 p4 p5 p6 : Byte) :
    EncodedLength.Statement (.df5 p1 p2 p3 p4 p5 p6) := fun _ => rfl

theorem EncodedLength.df6 (p1 p2 p3 p4 p5 p6 : Byte) :
    EncodedLength.Statement (.df6 p1 p2 p3 p4 p5 p6) := fun _ => rfl

theorem EncodedLength.df7 (p1 p2 p3 p4 p5 p6 : Byte) :
    EncodedLength.Statement (.df7 p1 p2 p3 p4 p5 p6) := fun _ => rfl

theorem EncodedLength.g1 (code : Byte) :
    EncodedLength.Statement (.g1 code) := fun _ => rfl

theorem EncodedLength.allocate (type : BufType) (capacity : Nat) :
    EncodedLength.Statement (.allocate type capacity) := fun _ => rfl

theorem EncodedLength.append (h : Handle) (v : Element) :
    EncodedLength.Statement (.append h v) := fun _ => rfl

theorem EncodedLength.setTimestamp (h : Handle) (t : Timestamp) :
    EncodedLength.Statement (.setTimestamp h t) := fun _ => rfl

theorem EncodedLength.addReader (h : Handle) :
    EncodedLength.Statement (.addReader h) := fun _ => rfl

theorem EncodedLength.release (h : Handle) :
    EncodedLength.Statement (.release h) := fun _ => rfl

theorem EncodedLength.dispatch (h : Handle) :
    EncodedLength.Statement (.dispatch h) := fun _ => rfl

theorem EncodedLength.shutdown :
    EncodedLength.Statement (.shutdown) := fun _ => rfl

theorem EncodedLength.registerSink (sink : Nat) (consumes : BufType) :
    EncodedLength.Statement (.registerSink sink consumes) := fun _ => rfl

theorem EncodedLength.accept (inbuf : Handle) :
    EncodedLength.Statement (.accept inbuf) := fun _ => rfl

theorem EncodedLength.terminate :
    EncodedLength.Statement (.terminate) := fun _ => rfl

theorem EncodedLength.reset (pool : Bool) :
    EncodedLength.Statement (.reset pool) := fun _ => rfl

theorem EncodedLength.flush :
    EncodedLength.Statement (.flush) := fun _ => rfl

theorem EncodedLength.parseBlocks :
    EncodedLength.Statement (.parseBlocks) := fun _ => rfl

theorem EncodedLength.processBlock :
    EncodedLength.Statement (.processBlock) := fun _ => rfl

end Sys2Proof.Laws
end

