-- ==== Sys2Proof/Tests/Slice0.lean ====
section
/-! SUPPORT. Our own tests. The words and the expected results are written out from the encodings and the
worked examples of spec/; the theorems named witness_<Name> meet the hypotheses of the statement
Obligations.<Name>. -/

namespace Sys2Proof.Tests

open Sys2Proof Sys2Proof.Machine

-- One test at a time: in parallel, their kernel checks need more threads than the memory limit allows.
set_option Elab.async false

/-! ### WellFormed refuses ill-formed terms -/

theorem test_wf_refuses_null_size :
    ∀ i ∈ [Instr.sbSvc0 0, .sbStd 1 0, .sbExt 0 9], i.wf defaultC1 = false := by decide

theorem test_wf_refuses_service : ∀ i ∈ [Instr.sbStd 0 4, .sbStd 7 4], i.wf defaultC1 = false := by decide

theorem test_wf_refuses_known_c0 :
    ∀ code ∈ [0x00#8, 0x03, 0x08, 0x0C, 0x0D, 0x0E, 0x10], (Instr.c0Unk1 code).wf defaultC1 = false := by
  decide

theorem test_wf_refuses_extended_range :
    ∀ i ∈ [Instr.ext1C20 0x08, .ext1C21 0x07 0, .ext1C21 0x10 0, .ext1C22 0x18 0 0, .ext1C23 0x17 0 0 0,
        .ext1C23 0x20 0 0 0, .ext1G2 0x1F, .ext1G2 0x80, .ext1C34 0x88 0 0 0 0, .ext1C35 0x87 0 0 0 0 0,
        .ext1C35 0x90 0 0 0 0 0, .ext1C3Var 0x8F, .ext1C3Var 0xA0, .ext1G3 0x9F],
      i.wf defaultC1 = false := by decide

theorem test_wf_refuses_code_range :
    ∀ i ∈ [Instr.c0Rsv2 0x10 0, .c0Rsv2 0x18 0, .c0Rsv3 0x18 0 0, .c0Rsv3 0x20 0 0, .g0 0x1F, .g0 0x80,
        .g1 0x9F],
      i.wf defaultC1 = false := by decide

/-- C1 tables that reserve SetPenColor besides the default codes, with a total length of 3. -/
def otherC1 : C1Table :=
  { len := c1FormatLen.set 0x11 3, reserved := [0x93, 0x94, 0x95, 0x96, 0x91] }

/-- A code that is not reserved, a payload of another length than `C1_LEN`'s, a code outside C1; a command
whose code the configuration reserves. -/
theorem test_wf_refuses_c1_reserved :
    (∀ i ∈ [Instr.c1Rsv ⟨0x92, [1, 2]⟩, .c1Rsv ⟨0x97, [1, 2, 3, 4]⟩, .c1Rsv ⟨0x93, [1]⟩, .c1Rsv ⟨0x13, []⟩],
      i.wf defaultC1 = false) ∧
    (∀ i ∈ [Instr.spc 1 2 3, .c1Rsv ⟨0x91, [1]⟩], i.wf otherC1 = false) ∧
    (∀ i ∈ [Instr.c1Rsv ⟨0x91, [1, 2]⟩, .spl 1 2], i.wf otherC1 = true) := by decide

/-- 45_c1_commands.md R273: a table is refused that is short, that holds a length outside 1..7, that gives a
command another length than its format's, or that does not reserve a code of R296. R351: counters too narrow for
a limit are refused. -/
theorem test_admissible_refuses :
    defaultParams.admissible = true ∧ otherC1.admissible = true ∧
    ({ defaultParams with cntW := 2 }).admissible = false ∧
    ({ defaultParams with cntW := 3 }).admissible = true ∧
    ({ defaultParams with cntW := 3, p16LogLimit := 7 }).admissible = false ∧
    ({ defaultC1 with len := [1] }).admissible = false ∧
    ({ defaultC1 with len := c1FormatLen.set 0x13 8 }).admissible = false ∧
    ({ defaultC1 with len := c1FormatLen.set 0x11 3 }).admissible = false ∧
    ({ defaultC1 with reserved := [0x93, 0x94, 0x95] }).admissible = false ∧
    ({ defaultC1 with reserved := 0x7F :: defaultC1.reserved }).admissible = false := by decide +kernel

/-! ### Decoding, one word per constructor -/

/-- The decoder of level C under the default tables. -/
def decodeDefault (bytes : List Byte) : Decoded := decodeCode defaultC1 bytes

/-- 00_scope.md R16: PS is 0xFE, PS! 0xFA, PD 0xFF, PD! 0xFB, F1 0xFC, F2 0xFD. -/
theorem test_decode_constructs :
    decode .construct defaultParams [0xFE, 0x40, 0x21] = .ok (.ps 0x40 0x21, []) ∧
    decode .construct defaultParams [0xFA, 0x40, 0x21] = .ok (.psInvalid 0x40 0x21, []) ∧
    decode .construct defaultParams [0xFF, 0x41, 0x00] = .ok (.pd 0x41 0x00, []) ∧
    decode .construct defaultParams [0xFB, 0x41, 0x00] = .ok (.pdInvalid 0x41 0x00, []) ∧
    decode .construct defaultParams [0xFC, 0x80, 0x81] = .ok (.f1 true 0x80 0x81, []) ∧
    decode .construct defaultParams [0xF9, 0x80, 0x81] = .ok (.f2 false 0x80 0x81, []) :=
  ⟨rfl, rfl, rfl, rfl, rfl, rfl⟩

/-- 30_encoding.md R92: the other level-A rows, bits 7:3 clear. -/
theorem test_decode_constructs_low_bits :
    decode .construct defaultParams [0x06, 1, 2] = .ok (.ps 1 2, []) ∧
    decode .construct defaultParams [0x03, 1, 2] = .ok (.pdInvalid 1 2, []) ∧
    decode .construct defaultParams [0x00, 1, 2] = .ok (.f1 false 1 2, []) ∧
    decode .construct defaultParams [0x05, 1, 2] = .ok (.f2 true 1 2, []) := ⟨rfl, rfl, rfl, rfl⟩

/-- 30_encoding.md R93, R95, R96, 42_service_block_parser.md R192 to R195. -/
theorem test_decode_headers :
    decode .packetHeader defaultParams [0xD0] = .ok (.pktHdr 3 0x10, []) ∧
    decode .blockHeader defaultParams [0xE0] = .ok (.sbNull 7, []) ∧
    decode .blockHeader defaultParams [0x00, 0xE0] = .ok (.sbNull 0, [0xE0]) ∧
    decode .blockHeader defaultParams [0x10] = .ok (.sbSvc0 16, []) ∧
    decode .blockHeader defaultParams [0x45] = .ok (.sbStd 2 5, []) ∧
    decode .blockHeader defaultParams [0xE2, 0x0A] = .ok (.sbExt 2 10, []) ∧
    decode .blockHeader defaultParams [0xE2, 0xCA] = .ok (.sbExt 2 10, []) :=
  ⟨rfl, rfl, rfl, rfl, rfl, rfl, rfl⟩

/-- 30_encoding.md R100 to R103. -/
theorem test_decode_c0_and_characters :
    decodeDefault [0x00] = .ok (.nul, []) ∧ decodeDefault [0x01] = .ok (.c0Unk1 0x01, []) ∧
    decodeDefault [0x03] = .ok (.etx, []) ∧ decodeDefault [0x08] = .ok (.bs, []) ∧
    decodeDefault [0x0C] = .ok (.ff, []) ∧ decodeDefault [0x0D] = .ok (.cr, []) ∧
    decodeDefault [0x0E] = .ok (.hcr, []) ∧ decodeDefault [0x0F] = .ok (.c0Unk1 0x0F, []) ∧
    decodeDefault [0x11, 0x41, 0x42] = .ok (.c0Rsv2 0x11 0x41, [0x42]) ∧
    decodeDefault [0x18, 0x4E, 0x2D] = .ok (.p16 0x4E 0x2D, []) ∧
    decodeDefault [0x1F, 0x00, 0x01] = .ok (.c0Rsv3 0x1F 0x00 0x01, []) ∧
    decodeDefault [0x7F] = .ok (.g0 0x7F, []) ∧ decodeDefault [0xA0] = .ok (.g1 0xA0, []) :=
  ⟨rfl, rfl, rfl, rfl, rfl, rfl, rfl, rfl, rfl, rfl, rfl, rfl, rfl⟩

/-- 30_encoding.md R104 to R112. -/
theorem test_decode_c1 :
    decodeDefault [0x80] = .ok (.cw0, []) ∧ decodeDefault [0x81] = .ok (.cw1, []) ∧
    decodeDefault [0x82] = .ok (.cw2, []) ∧ decodeDefault [0x83] = .ok (.cw3, []) ∧
    decodeDefault [0x84] = .ok (.cw4, []) ∧ decodeDefault [0x85] = .ok (.cw5, []) ∧
    decodeDefault [0x86] = .ok (.cw6, []) ∧ decodeDefault [0x87] = .ok (.cw7, []) ∧
    decodeDefault [0x88, 1] = .ok (.clw 1, []) ∧ decodeDefault [0x89, 2] = .ok (.dsw 2, []) ∧
    decodeDefault [0x8A, 3] = .ok (.hdw 3, []) ∧ decodeDefault [0x8B, 4] = .ok (.tgw 4, []) ∧
    decodeDefault [0x8C, 5] = .ok (.dlw 5, []) ∧ decodeDefault [0x8D, 6] = .ok (.dly 6, []) ∧
    decodeDefault [0x8E, 7] = .ok (.dlc, [7]) ∧ decodeDefault [0x8F, 7] = .ok (.rst, [7]) ∧
    decodeDefault [0x90, 1, 2] = .ok (.spa 1 2, []) ∧ decodeDefault [0x91, 1, 2, 3] = .ok (.spc 1 2 3, []) ∧
    decodeDefault [0x92, 1, 2] = .ok (.spl 1 2, []) ∧ decodeDefault [0x93, 1] = .ok (.c1Rsv ⟨0x93, []⟩, [1]) ∧
    decodeDefault [0x97, 1, 2, 3, 4] = .ok (.swa 1 2 3 4, []) :=
  ⟨rfl, rfl, rfl, rfl, rfl, rfl, rfl, rfl, rfl, rfl, rfl, rfl, rfl, rfl, rfl, rfl, rfl, rfl, rfl, rfl, rfl⟩

/-- 30_encoding.md R112. -/
theorem test_decode_define_window :
    decodeDefault [0x98, 1, 2, 3, 4, 5, 6] = .ok (.df0 1 2 3 4 5 6, []) ∧
    decodeDefault [0x99, 1, 2, 3, 4, 5, 6] = .ok (.df1 1 2 3 4 5 6, []) ∧
    decodeDefault [0x9A, 1, 2, 3, 4, 5, 6] = .ok (.df2 1 2 3 4 5 6, []) ∧
    decodeDefault [0x9B, 1, 2, 3, 4, 5, 6] = .ok (.df3 1 2 3 4 5 6, []) ∧
    decodeDefault [0x9C, 1, 2, 3, 4, 5, 6] = .ok (.df4 1 2 3 4 5 6, []) ∧
    decodeDefault [0x9D, 1, 2, 3, 4, 5, 6] = .ok (.df5 1 2 3 4 5 6, []) ∧
    decodeDefault [0x9E, 1, 2, 3, 4, 5, 6] = .ok (.df6 1 2 3 4 5 6, []) ∧
    decodeDefault [0x9F, 1, 2, 3, 4, 5, 6] = .ok (.df7 1 2 3 4 5 6, []) :=
  ⟨rfl, rfl, rfl, rfl, rfl, rfl, rfl, rfl⟩

/-- 30_encoding.md R113 to R115, 46_extended_codes.md R312 to R321. -/
theorem test_decode_extended :
    decodeDefault [0x10, 0x03, 9] = .ok (.ext1C20 0x03, [9]) ∧
    decodeDefault [0x10, 0x08, 0xFF, 0x41] = .ok (.ext1C21 0x08 0xFF, [0x41]) ∧
    decodeDefault [0x10, 0x10, 1, 2] = .ok (.ext1C22 0x10 1 2, []) ∧
    decodeDefault [0x10, 0x18, 1, 2, 3] = .ok (.ext1C23 0x18 1 2 3, []) ∧
    decodeDefault [0x10, 0x25, 9] = .ok (.ext1G2 0x25, [9]) ∧
    decodeDefault [0x10, 0x80, 1, 2, 3, 4, 0x41] = .ok (.ext1C34 0x80 1 2 3 4, [0x41]) ∧
    decodeDefault [0x10, 0x88, 1, 2, 3, 4, 5] = .ok (.ext1C35 0x88 1 2 3 4 5, []) ∧
    decodeDefault [0x10, 0x90, 1] = .ok (.ext1C3Var 0x90, [1]) ∧
    decodeDefault [0x10, 0xA0, 1] = .ok (.ext1G3 0xA0, [1]) :=
  ⟨rfl, rfl, rfl, rfl, rfl, rfl, rfl, rfl, rfl⟩

/-- 00_scope.md R7, 45_c1_commands.md R273, R296: a reserved code is consumed with its declared length. -/
theorem test_decode_reserved_length :
    decodeCode otherC1 [0x91, 1, 2, 3] = .ok (.c1Rsv ⟨0x91, [1, 2]⟩, [3]) ∧
    decodeCode otherC1 [0x91, 1] = .error .codeCut ∧
    decodeCode otherC1 [0x92, 1, 2] = .ok (.spl 1 2, []) := ⟨rfl, rfl, rfl⟩

/-- The decoder rejects by name. -/
theorem test_decode_rejects :
    decode .construct defaultParams [0xFE, 0x40] = .error .constructCut ∧
    decode .blockHeader defaultParams [0xE1] = .error .headerCut ∧
    decode .code defaultParams [0x92, 0x05] = .error .codeCut ∧
    decode .code defaultParams [] = .error .noBytes ∧
    decode .operation defaultParams [0x41] = .error .noEncoding := ⟨rfl, rfl, rfl, rfl, rfl⟩

theorem test_table_words :
    decodeTableWord 8 0x41 = some (.g0 0x41) ∧ decodeTableWord 8 0x92 = some (.spl 0 0) ∧
    decodeTableWord 16 0x1810 = some (.ext1C23 0x18 0 0 0) ∧ decodeTableWord 0 0 = none :=
  ⟨rfl, rfl, rfl, rfl⟩

/-! ### Small states -/

/-- An output buffer with room for five units. -/
def outSlot : Slot :=
  { inUse := true, type := .dtvccUnits, maxNumElements := 5, readers := 1, ts := .none, data := [] }

/-- A free slot. -/
def freeSlot0 : Slot := { outSlot with inUse := false, readers := 0 }

/-- The decoder at byte 2 of a packet, `n` bytes before the end of a block of service 1, sequence 1. -/
def inBlock (n : Nat) : State :=
  { State.reset with
    phase := .block, pktLen := cursor 40, rd := cursor 2, sbEnd := cursor (2 + n), sbSvc := 1, curSeq := 1
    out := some 0, pool := [outSlot, freeSlot0] }

/-- The next state of an instruction; a state of its own where there is none. -/
def after (i : Instr) (s : State) : State :=
  match exec i s with
  | .next t => t
  | _ => { State.reset with cidx := 999 }

/-- The bodies of the units in slot `i`. -/
def bodies (i : Nat) (s : State) : List Body :=
  ((s.pool[i]?).getD Slot.free).data.filterMap fun e =>
    match e with
    | .unit u => some u.body
    | .byte _ => none

/-- The codes of the events recorded. -/
def eventCodes (s : State) : List Nat :=
  s.diag.filterMap fun d =>
    match d with
    | .event _ e => some e.code
    | _ => none

/-- PKT holding the bytes from 0 on. -/
def packet (bytes : List Byte) (s : State) : State :=
  { s with
    pktBuf := bytes.zipIdx.foldl (fun m e => m.write e.2 e.1) [], pktLen := cursor bytes.length }

/-- A buffer of constructs. -/
def inbufSlot (cs : List RawConstruct) : Slot :=
  { inUse := true, type := .rawCc, maxNumElements := 3 * cs.length, readers := 1, ts := .clock 0 0 1 0
    data := inbufOf cs }

/-- A sink that answers as scripted. -/
def oneSink (answer : Bool) (acts : List SinkAct) (s : State) : State :=
  { s with
    sinks := [{ sink := 7, consumes := .dtvccUnits }], replies := [{ success := answer, acts := acts }] }

/-! ### Meanings, from the worked examples of spec/ -/

/-- 43_decoder_c0.md R230 to R236. -/
theorem test_c0 :
    [Instr.nul, .etx, .bs, .ff, .cr, .hcr].map (fun i => bodies 0 (after i (inBlock 1))) =
      [[.c0 0x00], [.c0 0x03], [.c0 0x08], [.c0 0x0C], [.c0 0x0D], [.c0 0x0E]] ∧
    bodies 0 (after (.c0Unk1 0x01) (inBlock 2)) = [] ∧
    (after (.c0Unk1 0x01) (inBlock 2)).diag = [.event true (.unknownC0 0x01)] := by decide +kernel

/-- 43_decoder_c0.md R238, R239, R240. -/
theorem test_c0_multibyte :
    (after (.c0Rsv2 0x11 0x41) (inBlock 3)).rd = 4 ∧ bodies 0 (after (.c0Rsv2 0x11 0x41) (inBlock 3)) = [] ∧
    (after (.c0Rsv3 0x1F 0 0) (inBlock 4)).diag = [.event true (.unknownC0 0x1F)] ∧
    bodies 0 (after (.p16 0x4E 0x2D) (inBlock 3)) = [.c0P16 0x4E 0x2D] ∧
    eventCodes (after (.p16 0x4E 0x2D) (inBlock 3)) = [9] := by decide +kernel

/-- 44_chars_g0_g1.md R260 to R263, 46_extended_codes.md R316, R321. -/
theorem test_characters :
    bodies 0 (after (.g0 0x48) (inBlock 1)) = [.g0 0x48 (.codePoint 0x48)] ∧
    bodies 0 (after (.g0 0x7F) (inBlock 1)) = [.g0 0x7F (.codePoint 0x266A)] ∧
    bodies 0 (after (.g1 0xE9) (inBlock 1)) = [.g1 0xE9 (.codePoint 0xE9)] ∧
    bodies 0 (after (.ext1G2 0x25) (inBlock 2)) = [.g2 0x25 (.codePoint 0x2026)] ∧
    bodies 0 (after (.ext1G2 0x22) (inBlock 2)) = [.g2 0x22 .unknownGlyph] ∧
    bodies 0 (after (.ext1G3 0xA0) (inBlock 2)) = [.g3 0xA0 .ccIcon] ∧
    bodies 0 (after (.ext1G3 0xA1) (inBlock 2)) = [.g3 0xA1 .unknownGlyph] := by decide +kernel

/-- 45_c1_commands.md R274 to R282. -/
theorem test_c1_simple :
    bodies 0 (after .cw3 (inBlock 1)) = [.c1 0x83 .none] ∧
    bodies 0 (after (.clw 0x05) (inBlock 2)) = [.c1 0x88 (.windowBitmap 0x05)] ∧
    bodies 0 (after (.dsw 0xFF) (inBlock 2)) = [.c1 0x89 (.windowBitmap 0xFF)] ∧
    bodies 0 (after (.hdw 0x01) (inBlock 2)) = [.c1 0x8A (.windowBitmap 0x01)] ∧
    bodies 0 (after (.tgw 0x80) (inBlock 2)) = [.c1 0x8B (.windowBitmap 0x80)] ∧
    bodies 0 (after (.dlw 0x02) (inBlock 2)) = [.c1 0x8C (.windowBitmap 0x02)] ∧
    bodies 0 (after (.dly 0x0A) (inBlock 3)) = [.c1 0x8D (.delay 10)] ∧
    bodies 0 (after .dlc (inBlock 1)) = [.c1 0x8E .none] ∧
    bodies 0 (after .rst (inBlock 1)) = [.c1 0x8F .none] := by decide +kernel

/-- 45_c1_commands.md R283, R284, R285. -/
theorem test_pen_commands :
    bodies 0 (after (.spa 0x05 0x81) (inBlock 3)) =
      [.c1 0x90 (.penAttributes
        { penSize := 1, offset := 1, textTag := 0, fontTag := 1, edgeType := 0, underline := 0
          italic := 1 })] ∧
    bodies 0 (after (.spc 0x3F 0x00 0x2A) (inBlock 4)) =
      [.c1 0x91 (.penColor
        { fgOpacity := 0, fgR := 3, fgG := 3, fgB := 3, bgOpacity := 0, bgR := 0, bgG := 0, bgB := 0
          edgeR := 2, edgeG := 2, edgeB := 2 })] ∧
    bodies 0 (after (.spl 0x05 0x0A) (inBlock 3)) =
      [.c1 0x92 (.penLocation { row := 5, column := 10 })] := by decide +kernel

/-- 45_c1_commands.md R286. -/
theorem test_set_window_attributes :
    bodies 0 (after (.swa 0xC3 0x55 0xC6 0x12) (inBlock 5)) =
      [.c1 0x97 (.windowAttributes
        { fillOpacity := 3, fillR := 0, fillG := 0, fillB := 3, borderType := 5
          borderR := 1, borderG := 1, borderB := 1, wordWrap := 1, printDirection := 0
          scrollDirection := 1, justify := 2, effectSpeed := 1, effectDirection := 0
          displayEffect := 2 })] := by decide +kernel

/-- 45_c1_commands.md R287: the worked example, which also sets the style of service 1. -/
theorem test_define_window :
    bodies 0 (after (.df1 0x38 0x4A 0x64 0x2E 0x1F 0x11) (inBlock 7)) =
      [.c1 0x99 (.windowDefinition
        { windowId := 1, visible := 1, rowLock := 1, columnLock := 1, priority := 0
          relativePositioning := 0, anchorVertical := 74, anchorHorizontal := 100, anchorPoint := 2
          rowCount := 14, columnCount := 31, windowStyle := 2, penStyle := 1 })] ∧
    styleOf (after (.df1 0x38 0x4A 0x64 0x2E 0x1F 0x11) (inBlock 7)) 1 = .popOn := by decide +kernel

/-- 47_style_classifier.md R342: the worked example's second command, a transition. -/
theorem test_style_transition :
    let s := after (.df1 0 0 0 0 0 0x28) (setStyle 1 .popOn (inBlock 7))
    s.diag = [.event true (.styleTransition 1 .popOn .rollUp)] ∧ ambiguousOf s 1 = true ∧
      styleOf s 1 = .rollUp ∧ ambiguousOf s 2 = false := by decide +kernel

/-- 46_extended_codes.md R312 to R315, R318 to R320, 45_c1_commands.md R296. -/
theorem test_extended :
    bodies 0 (after (.ext1C20 0x03) (inBlock 2)) = [.c2 0x03 0] ∧
    bodies 0 (after (.ext1C21 0x08 0xFF) (inBlock 4)) = [.c2 0x08 1] ∧
    bodies 0 (after (.ext1C22 0x10 0 0) (inBlock 4)) = [.c2 0x10 2] ∧
    bodies 0 (after (.ext1C23 0x18 1 2 3) (inBlock 5)) = [.c2 0x18 3] ∧
    bodies 0 (after (.ext1C34 0x80 1 2 3 4) (inBlock 7)) = [.c3 0x80 4] ∧
    bodies 0 (after (.ext1C35 0x88 0 0 0 0 0) (inBlock 7)) = [.c3 0x88 5] ∧
    (after (.ext1C3Var 0x90) (inBlock 5)).diag = [.event true (.c3VarlenAbandon 0x90 3)] ∧
    (after (.c1Rsv ⟨0x93, []⟩) (inBlock 2)).diag = [.event true (.reservedC1 0x93)] := by decide +kernel

/-- A machine with the tables `otherC1`. -/
def withOtherC1 (s : State) : State := { s with cfg := { s.cfg with c1 := otherC1 } }

/-- 45_c1_commands.md R272, R296: "drop the declared byte length, continue", under tables that reserve 0x91. -/
theorem test_reserved_with_payload :
    let s := after (.c1Rsv ⟨0x91, [1, 2]⟩) (withOtherC1 (inBlock 4))
    s.diag = [.event true (.reservedC1 0x91)] ∧ bodies 0 s = [] ∧ s.rd = 5 ∧ s.mode = .dataWait := by
  decide +kernel

/-- 43_decoder_c0.md R224: the worked example. -/
theorem test_truncated :
    (after (.spl 0x05 0x00) (inBlock 2)).diag = [.event true (.decodeTruncated 0x92 .c1Pending 1)] ∧
    (after (.ext1C20 0) (inBlock 1)).diag = [.event true (.decodeTruncated 0x10 .extendedPending 1)] ∧
    (after (.spl 0x05 0x00) (inBlock 2)).mode = .dataWait := by decide +kernel

/-- 41_packet_assembler.md R161, R162. -/
theorem test_assembler :
    (after (.ps 0x10 0x10) State.reset).pktBuf = [(0, 0x10), (1, 0x10)] ∧
    (after (.ps 0x10 0x10) State.reset).pktLen = 2 ∧ (after (.ps 0x10 0x10) State.reset).diag = [] ∧
    (after (.pd 0x92 0x05) (packet [0x40, 0x21] State.reset)).pktBuf =
      [(0, 0x40), (1, 0x21), (2, 0x92), (3, 0x05)] ∧
    eventCodes (after (.pd 1 2) { State.reset with pktLen := 128 }) = [4] := by decide +kernel

/-- 41_packet_assembler.md R166, R168, R169, R174: the flush of `10 10`. -/
theorem test_flush_zero_content :
    (after .flush (packet [0x10, 0x10] State.reset)).diag = [.event true (.pktLenMismatch 32 2)] ∧
    (after .flush (packet [0x10, 0x10] State.reset)).lastSeq = 0 ∧
    (after (.pktHdr 3 0x02) { State.reset with pktLen := 4, lastSeq := 1, lastSeqValid := true }).diag =
      [.event true (.seqDiscontinuity 2 3)] := by decide +kernel

/-- A machine whose counters are `n` bits wide. -/
def withCntW (n : Nat) (s : State) : State := { s with cfg := { s.cfg with cntW := n } }

/-- The `verbose` bits of the events recorded. -/
def verboseBits (s : State) : List Bool :=
  s.diag.filterMap fun d =>
    match d with
    | .event v _ => some v
    | _ => none

/-- 41_packet_assembler.md R167 and its worked example, with the default counters and with one bit. -/
theorem test_zero_length :
    ∀ n ∈ [1, 32],
      let s := (after (.psInvalid 0 0))^[4] (withCntW n State.reset)
      eventCodes s = [1, 1, 1] ∧ verboseBits s = [true, false, false] := by decide +kernel

/-- 41_packet_assembler.md R169 with counters of three bits, the narrowest the limits admit, on past saturation;
95_test_vectors.md's saturation vector with two bits. -/
theorem test_limits_and_saturation :
    (let s := (raise (.pktLenMismatch 32 2))^[9] (withCntW 3 State.reset)
     verboseBits s = [true, true, true, true, true, false, false, false, false] ∧ counterOf s 3 = 7) ∧
    (let s := (raise (.unknownC0 0x01))^[4] (withCntW 2 State.reset)
     verboseBits s = [true, true, true, true] ∧ counterOf s 8 = 3) := by decide +kernel

/-- 42_service_block_parser.md R192, R194 to R196. -/
theorem test_parser_events :
    (after .parseBlocks (packet [0x00, 0xE0, 0x21, 0x41] State.reset)).diag = [] ∧
    (after .parseBlocks (packet [0x00, 0x10, 0x41, 0x41] State.reset)).diag = [.event true (.svc0 16)] ∧
    (after .parseBlocks (packet [0x00, 0x25, 0x41, 0x42] State.reset)).diag =
      [.event true (.sbLenMismatch 1 5 2), .event true .noSinks] ∧
    (after .parseBlocks (packet [0x00, 0xE1, 0x03, 0x01] State.reset)).diag =
      [.event true (.extSvcIllegal 3), .event true (.unknownC0 0x01)] := by decide +kernel

/-- 42_service_block_parser.md R198: the worked example, delivered to one sink. -/
theorem test_block_delivered :
    (after .flush (packet [0x40, 0x21, 0x41, 0x00] (oneSink true [] State.reset))).sinkCalls =
      [.accept 0 7 0 .none [.unit { svc := 1, seq := 1, body := .g0 0x41 (.codePoint 0x41) }]] ∧
    ((after .flush (packet [0x40, 0x21, 0x41, 0x00] (oneSink true [] State.reset))).pool.map Slot.readers) =
      [1, 0, 0, 0, 0, 0, 0, 0] := by decide +kernel

/-- 42_service_block_parser.md R197: the worked example counts 3; a reserved code counts none. -/
theorem test_pre_count :
    preCountBytes defaultParams 6 [0x92, 0x05, 0x0A, 0x41, 0x10, 0x25] = 3 ∧
    preCountBytes { defaultParams with c1 := otherC1 } 4 [0x91, 0x41, 0x41, 0x42] = 1 := by decide +kernel

/-- 40_buffer_fanout.md R131 to R134, R138. -/
theorem test_substrate :
    (after (.allocate .dtvccUnits 3) State.reset).ret = some (.handle 0) ∧
    ((after (.addReader (some 0)) (inBlock 0)).pool.map Slot.readers) = [2, 0] ∧
    ((after (.release (some 0)) (inBlock 0)).pool.map Slot.inUse) = [false, false] ∧
    ((after (.setTimestamp (some 0) (.clock 1 2 3 4)) (inBlock 0)).pool.map Slot.ts) =
      [.clock 1 2 3 4, .none] ∧
    ((after (.append (some 0) (.byte 9)) (inBlock 0)).pool.map Slot.numElements) = [1, 0] ∧
    (after (.release none) (inBlock 0)).fatalCause = .contract ∧
    (after (.registerSink 7 .rawCc) State.reset).ret = some .refused ∧
    (after (.registerSink 7 .dtvccUnits) State.reset).sinks = [{ sink := 7, consumes := .dtvccUnits }] := by
  decide +kernel

/-- 40_buffer_fanout.md R136, R137: a failing sink, and no sink. -/
theorem test_dispatch_and_shutdown :
    (after (.dispatch (some 0)) (oneSink false [.releaseGiven] (inBlock 0))).ret = some (.bool false) ∧
    (after (.dispatch (some 0)) (inBlock 0)).diag = [.event true .noSinks] ∧
    (after .shutdown (oneSink true [] State.reset)).sinkCalls = [.terminate 0 7] := by decide +kernel

/-- 41_packet_assembler.md R160: the worked example's 6 bytes. -/
theorem test_accept :
    let s := after (.accept (some 0))
      { State.reset with pool := [inbufSlot [⟨0xFE, 0x40, 0x21⟩, ⟨0xFF, 0x41, 0x00⟩]] }
    s.ret = some (.bool true) ∧ s.pktLen = 4 ∧ s.curTs = .clock 0 0 1 0 ∧
      s.pool.map Slot.inUse = [false] := by decide +kernel

/-- 41_packet_assembler.md R172, 70_reset_and_hazards.md R403: Terminate with nothing accepted. -/
theorem test_terminate :
    let s := after .terminate State.reset
    s.terminated = true ∧ s.ret = some (.bool true) ∧ s.firstFlushDone = true ∧
      s.diag = [.report { unknownCommands := 0, p16Occurrences := 0, lengthMismatches := 0
                          ambiguousStyles := 0, ambiguousServices := []
                          counters := List.replicate 17 0 }] := by decide +kernel

/-- 60_exceptions.md R370, 70_reset_and_hazards.md R400. -/
theorem test_halt_and_reset :
    (match exec .nul (after (.release none) State.reset) with
      | .fault .halted => true
      | _ => false) = true ∧
    (after (.reset true) (after (.release none) (inBlock 0))).fatal = false ∧
    (after (.reset true) (after (.release none) (inBlock 0))).pool.map Slot.inUse = [false, false] := by
  decide +kernel

/-- The word of G0 0x41, placed where `step` fetches, runs as the first instruction after reset. -/
theorem test_step_runs_placed_word :
    (match step (State.reset.withFetchWord 8 0x41) with
      | .next t => bodies 0 t
      | _ => []) = [.g0 0x41 (.codePoint 0x41)] := by decide +kernel

/-! ### Witnesses: states and operands that meet the hypotheses of the statements -/

theorem witness_DecodeOfEncodeIsIdentity :
    defaultTags.distinct = true ∧ (Instr.ps 1 2).wf defaultC1 = true ∧ (Instr.ps 1 2).level ≠ .operation ∧
    (Instr.pktHdr 3 63).wf defaultC1 = true ∧ (Instr.pktHdr 3 63).level ≠ .operation ∧
    (Instr.sbExt 31 63).wf defaultC1 = true ∧ (Instr.sbExt 31 63).level ≠ .operation ∧
    (Instr.ext1G3 0xFF).wf defaultC1 = true ∧ (Instr.ext1G3 0xFF).level ≠ .operation ∧
    (Instr.c1Rsv ⟨0x91, [1, 2]⟩).wf otherC1 = true := by decide

theorem witness_EveryByteStringHasOneCode :
    defaultC1.admissible = true ∧ otherC1.admissible = true ∧
    maxCodeLen ≤ [0x41#8, 0, 0, 0, 0, 0, 0].length ∧ (Instr.g0 0x41).wf defaultC1 = true ∧
    (Instr.g0 0x41).level = .code ∧
    encode defaultTags (.g0 0x41) ++ [0, 0, 0, 0, 0, 0] = [0x41, 0, 0, 0, 0, 0, 0] := by decide +kernel

theorem witness_ConstructSelection :
    defaultTags.distinct = true ∧
    ((0xFE#8).extractLsb 1 0 = defaultTags.pktStart ∧ (0xFE#8).getLsbD 2 = true) ∧
    ((0x02#8).extractLsb 1 0 = defaultTags.pktStart ∧ (0x02#8).getLsbD 2 = false) ∧
    ((0xFF#8).extractLsb 1 0 = defaultTags.pktData ∧ (0xFF#8).getLsbD 2 = true) ∧
    ((0x03#8).extractLsb 1 0 = defaultTags.pktData ∧ (0x03#8).getLsbD 2 = false) ∧
    (0x00#8).extractLsb 1 0 = defaultTags.field1 ∧ (0xFD#8).extractLsb 1 0 = defaultTags.field2 := by decide

theorem witness_IgnoredBitsChangeNothing :
    (0xFE#8).extractLsb 2 0 = (0x06#8).extractLsb 2 0 ∧
    ((0xE1#8).extractLsb 7 5 = 7#3 ∧ (0xE1#8).extractLsb 4 0 ≠ 0#5 ∧
      (0xCA#8).extractLsb 5 0 = (0x0A#8).extractLsb 5 0) ∧
    (0xF5#8).extractLsb 3 0 = (0x05#8).extractLsb 3 0 := by decide

/-- A state that waits for one requested operation. -/
def asked (i : Instr) : State := { State.reset with requests := [i] }

/-- A state whose `Accept` is at its only construct. -/
def inAccept : State :=
  { State.reset with
    phase := .accept, inProgress := .accept 0 3, pool := [inbufSlot [⟨0xFF, 0x41, 0x42⟩]] }

/-- A state about to execute the packet header byte of the packet. -/
def atHeader : State := { packet [0x40, 0x21, 0x41, 0x00] State.reset with phase := .header }

/-- A state at the block header of that packet. -/
def atBlockHeader : State := { atHeader with phase := .parse, rd := 1 }

/-- A state at the SPL of a block that holds all, or with `n = 2` only two, of its bytes. -/
def atSpl (n : Nat) : State :=
  { packet [0x40, 0x23, 0x92, 0x05, 0x0A, 0x00] State.reset with
    phase := .block, rd := 2, sbEnd := cursor (2 + n), sbSvc := 1, out := some 0, pool := [outSlot] }

theorem witness_StepRunsDecodedInstruction_host :
    ((asked .terminate).phase = .host ∧ (asked .terminate).requests = [.terminate] ∧
      isChannelOp .terminate = true) ∧
    ({ asked (.reset true) with fatal := true }).fatal = true ∧ isChannelOp (.reset true) = true := by
  decide +kernel

theorem witness_StepRunsDecodedInstruction_accept :
    inAccept.fatal = false ∧ inAccept.phase = .accept ∧ inAccept.inProgress = .accept 0 3 ∧
    3 * inAccept.cidx + 3 ≤ 3 ∧
    decode .construct inAccept.cfg [inbufByte inAccept 0 0, inbufByte inAccept 0 1, inbufByte inAccept 0 2] =
      .ok (.pd 0x41 0x42, []) ∧
    ∃ t, exec (.pd 0x41 0x42) inAccept = .next t := ⟨rfl, rfl, rfl, by decide, rfl, _, rfl⟩

theorem witness_StepRunsDecodedInstruction_header :
    atHeader.fatal = false ∧ atHeader.phase = .header ∧
    decode .packetHeader atHeader.cfg [pktByte atHeader 0] = .ok (.pktHdr 1 0, []) ∧
    ∃ t, exec (.pktHdr 1 0) atHeader = .next t := ⟨rfl, rfl, rfl, _, rfl⟩

theorem witness_StepRunsDecodedInstruction_parse :
    atBlockHeader.fatal = false ∧ atBlockHeader.phase = .parse ∧
    2 ≤ atBlockHeader.pktLen.val - atBlockHeader.rd.val ∧
    decode .blockHeader atBlockHeader.cfg [pktByte atBlockHeader 1, pktByte atBlockHeader 2] =
      .ok (.sbStd 1 1, [0x41]) := ⟨rfl, rfl, by decide, rfl⟩

theorem witness_StepRunsDecodedInstruction_block :
    (∀ n ∈ [2, 3], (atSpl n).fatal = false ∧ (atSpl n).phase = .block ∧ (atSpl n).rd.val < (atSpl n).sbEnd.val ∧
      (encode (atSpl n).cfg.tags (.spl 0x05 0x0A)).take ((atSpl n).sbEnd.val - (atSpl n).rd.val) =
        (pktBytes (atSpl n) (atSpl n).rd.val (atSpl n).sbEnd.val).take
          (encode (atSpl n).cfg.tags (.spl 0x05 0x0A)).length) ∧
    (atSpl 3).cfg.c1.admissible = true ∧ (Instr.spl 0x05 0x0A).wf (atSpl 3).cfg.c1 = true ∧
    (Instr.spl 0x05 0x0A).level = .code := by decide +kernel

theorem witness_HaltedUntilReset :
    (raiseFatal .contract State.reset).fatal = true ∧ (∀ pool, Instr.nul ≠ .reset pool) := by decide

/-- A state with a request has the invariants, and a step answers a next state. -/
theorem witness_StepKeepsInvariant :
    (asked .terminate).Inv ∧ (asked .terminate).CursorsInside ∧ ∃ t, step (asked .terminate) = .next t := by
  refine ⟨⟨by decide +kernel, by decide, by decide, by decide, by decide, by decide, by decide +kernel,
      by decide +kernel, by decide +kernel, by decide, by decide, by decide⟩,
    ⟨by decide, by decide, by decide⟩, _, rfl⟩

/-- A state inside a block has the invariants, and a step answers a next state. -/
theorem witness_StepKeepsCursorsInside :
    (atSpl 3).Inv ∧ (atSpl 3).CursorsInside ∧ ∃ t, step (atSpl 3) = .next t := by
  refine ⟨⟨by decide +kernel, by decide, by decide +kernel, by decide +kernel, by decide +kernel, by decide,
      by decide +kernel, by decide +kernel, by decide +kernel, by decide +kernel, by decide +kernel,
      by decide +kernel⟩,
    ⟨by decide +kernel, by decide +kernel, by decide +kernel⟩, _, rfl⟩

/-- The boundary of each cursor clause: a header of the shortest packet, a block header past the last byte. -/
theorem witness_StepKeepsCursorsInside_boundaries :
    ∀ s ∈ [{ State.reset with phase := .header, pktLen := 2 },
        { State.reset with phase := .parse, pktLen := 128, rd := 128 }],
      s.Inv ∧ s.CursorsInside ∧ ∃ t, step s = .next t := by
  intro s h
  rcases List.mem_cons.1 h with rfl | h
  · exact ⟨⟨by decide +kernel, by decide, by decide, by decide, by decide, by decide, by decide +kernel,
      by decide +kernel, by decide +kernel, by decide, by decide, by decide⟩,
      ⟨by decide, by decide, by decide⟩, _, rfl⟩
  · obtain rfl := List.mem_singleton.1 h
    exact ⟨⟨by decide +kernel, by decide, by decide, by decide, by decide, by decide, by decide +kernel,
      by decide +kernel, by decide +kernel, by decide, by decide, by decide⟩,
      ⟨by decide, by decide, by decide⟩, _, rfl⟩

theorem witness_FlagsAndCountersOnlyGrow :
    (∀ pool, Instr.flush ≠ .reset pool) ∧ ∃ t, exec .flush State.reset = .next t := ⟨by decide, _, rfl⟩

theorem witness_ParametersAndPoolSizeAreFixed : ∃ t, exec (.reset true) State.reset = .next t := ⟨_, rfl⟩

/-- With the default counters, and with the narrowest that the default limits admit. -/
theorem witness_EventMechanism :
    ((asked .terminate).Inv ∧ eventLimit (asked .terminate).cfg .zeroLenPkt = some 1 ∧
      eventLimit (asked .terminate).cfg (.pktLenMismatch 32 2) = some 5) ∧
    ∀ n ∈ [3, 32],
      let s := withCntW n State.reset
      s.cfg.admissible = true ∧
      (eventLimit s.cfg (.p16 1 2) = some 6 ∧ (Event.p16 1 2).code ≠ 1 ∧
        counterOf s (Event.p16 1 2).code = 0 ∧ 6 < 2 ^ s.cfg.cntW - 1) ∧
      eventLimit s.cfg (.pktLenMismatch 32 2) = some 5 ∧ (Event.pktLenMismatch 32 2).code ≠ 1 ∧
      counterOf s (Event.pktLenMismatch 32 2).code = 0 ∧ 5 < 2 ^ s.cfg.cntW - 1 :=
  ⟨⟨witness_StepKeepsInvariant.1, by decide +kernel⟩, by decide +kernel⟩

theorem witness_PacketDataAppends :
    (State.reset.fatal = false ∧ State.reset.pktBuf.wf = true ∧ State.reset.pktLen.val + 2 ≤ 128) ∧
    ({ State.reset with pktLen := 126 }).pktLen.val + 2 ≤ 128 ∧
    128 < ({ State.reset with pktLen := 128 }).pktLen.val + 2 := by decide

theorem witness_ConstructsWithoutEffect : State.reset.fatal = false := rfl

/-- A packet of one unit, and no slot for it: its Flush is fatal. -/
def noSlot : State := { packet [0x40, 0x21, 0x41, 0x00] State.reset with pool := [] }

theorem witness_PacketStartFlushes :
    (∃ u, exec .flush State.reset = .next u ∧ u.fatal = false ∧ u.pktBuf.wf = true) ∧
    (noSlot.fatal = false ∧ ∃ u, exec .flush noSlot = .next u ∧ u.fatal = true) :=
  ⟨⟨_, rfl, rfl, rfl⟩, rfl, _, rfl, by decide +kernel⟩

theorem witness_FlushOfEmptyPacket :
    State.reset.fatal = false ∧ State.reset.pktLen.val = 0 ∧
    ({ State.reset with firstFlushDone := true }).pktLen.val = 0 ∧
    State.reset.firstFlushDone = false ∧ State.reset.zeroLenLogged = false := by decide

theorem witness_FlushOfPacket :
    noSlot.fatal = false ∧ noSlot.pktLen.val ≠ 0 ∧ ∃ u v,
      exec (.pktHdr ((pktByte noSlot 0).extractLsb 7 6) ((pktByte noSlot 0).extractLsb 5 0))
        { noSlot with phase := .header } = .next u ∧ exec .parseBlocks u = .next v :=
  ⟨rfl, by decide, _, _, rfl, rfl⟩

theorem witness_PacketHeaderChecks :
    atHeader.fatal = false ∧ ({ atHeader with lastSeqValid := true }).lastSeqValid = true := by
  decide +kernel

theorem witness_ParseEnds :
    State.reset.fatal = false ∧ ({ State.reset with pktLen := 2 }).pktLen.val - 1 < 2 ∧
    (pktByte (packet [0x00, 0xE0, 0x21, 0x41] State.reset) 1).extractLsb 4 0 = 0#5 := by decide +kernel

theorem witness_ServiceZeroAbandonsPacket : atBlockHeader.fatal = false ∧ (16#5 ≠ 0) := by decide

theorem witness_StandardBlockIsProcessed :
    atBlockHeader.fatal = false ∧ (1#3 ≠ 0 ∧ 1#3 ≠ 7 ∧ 6#3 ≠ 0 ∧ 6#3 ≠ 7 ∧ 31#5 ≠ 0) ∧
    atBlockHeader.rd.val + 1 ≤ atBlockHeader.pktLen.val ∧
    ({ atBlockHeader with rd := 3 }).rd.val + 1 ≤ ({ atBlockHeader with rd := 3 }).pktLen.val := by decide +kernel

theorem witness_ExtendedBlockIsProcessed :
    atBlockHeader.fatal = false ∧ (1#5 ≠ 0 ∧ 1#6 ≠ 0 ∧ 63#6 ≠ 0) ∧
    ({ atBlockHeader with rd := 2 }).rd.val + 2 ≤ ({ atBlockHeader with rd := 2 }).pktLen.val := by decide +kernel

/-- A state at a block of three bytes, SPL, with the slot free. -/
def beforeBlock : State := oneSink true [.releaseGiven] { atSpl 3 with out := none, pool := [freeSlot0] }

theorem witness_PreCountIsExact :
    (atSpl 3).fatal = false ∧ (atSpl 3).decoderIdle ∧ (atSpl 3).codesAdmissible ∧
    (atSpl 3).rd.val ≤ (atSpl 3).sbEnd.val ∧ preCount (atSpl 3) 2 5 = 1 ∧
    (atSpl 3).OutSlot 0 outSlot ∧ outSlot.numElements + 1 ≤ outSlot.maxNumElements ∧
    preCount (atSpl 2) 2 4 = 0 := by decide +kernel

theorem witness_BlockWithoutUnits :
    (atSpl 2).fatal = false ∧ (atSpl 2).decoderIdle ∧ (atSpl 2).codesAdmissible ∧
    (atSpl 2).rd.val ≤ (atSpl 2).sbEnd.val ∧ preCount (atSpl 2) 2 4 = 0 := by decide +kernel

/-- With a script, with none, where the free values answer, and without a sink. -/
theorem witness_BlockIsDelivered :
    ∀ s ∈ [beforeBlock, { beforeBlock with replies := [] }, { beforeBlock with sinks := [] }],
      s.fatal = false ∧ s.decoderIdle ∧ s.codesAdmissible ∧ s.rd.val ≤ s.sbEnd.val ∧
      0 < preCount s s.rd.val s.sbEnd.val ∧ (∃ p ∈ s.pool, p.inUse = false) ∧ s.dutifulSinks := by
  decide +kernel

theorem witness_NoPacketIsFatal :
    atHeader.fatal = false ∧ atHeader.decoderIdle ∧ atHeader.codesAdmissible ∧ atHeader.sinks = [] ∧
    ∃ p ∈ atHeader.pool, p.inUse = false := by decide +kernel

theorem witness_SingleByteC0 :
    (inBlock 1).AtCode 1 ∧ (inBlock 1).OutSlot 0 outSlot ∧ 0x0E ∈ (inBlock 1).cfg.c0Known ∧
    0x0F ∉ (inBlock 1).cfg.c0Known ∧ (0x0F#8).toNat ≤ 0x0F := by decide +kernel

theorem witness_ReservedCodes :
    (inBlock 2).AtCode 2 ∧ (inBlock 3).AtCode 3 ∧ (inBlock 1).AtCode 1 ∧
    (0x11 ≤ (0x11#8).toNat ∧ (0x17#8).toNat ≤ 0x17) ∧ (0x19 ≤ (0x19#8).toNat ∧ (0x1F#8).toNat ≤ 0x1F) ∧
    (∀ code ∈ [0x93#8, 0x96#8], (inBlock 1).cfg.c1.isReserved code = true ∧
      ([] : List Byte).length + 1 = (inBlock 1).cfg.c1.lenOf code) ∧
    ((withOtherC1 (inBlock 3)).AtCode (1 + [1#8, 2].length) ∧
      (withOtherC1 (inBlock 3)).cfg.c1.isReserved 0x91 = true ∧
      [1#8, 2].length + 1 = (withOtherC1 (inBlock 3)).cfg.c1.lenOf 0x91) ∧
    (inBlock 1).cfg.c1.admissible = true ∧ (withOtherC1 (inBlock 3)).cfg.c1.admissible = true := by
  decide +kernel

/-- A code of any length at the end of its block, with room for its unit (P16Recorded, C1WithoutPayload,
BitmapCommandsAndDelay, PenCommands, SetWindowAttributes, DefineWindow, UnsupportedExtendedCodes). -/
theorem witness_codes_at_the_end_of_the_block :
    (∀ n ∈ [1, 2, 3, 4, 5, 6, 7], (inBlock n).AtCode n ∧ (inBlock n).OutSlot 0 outSlot ∧
      (inBlock n).cfg.c1.admissible = true) ∧
    ∀ code ∈ [0x80#8, 0x87, 0x88, 0x8C, 0x8D, 0x8E, 0x8F, 0x90, 0x91, 0x92, 0x97, 0x98, 0x9F],
      (inBlock 1).cfg.c1.isReserved code = false := by decide +kernel

theorem witness_CharacterIsEmitted :
    (inBlock 1).AtCode 1 ∧ (inBlock 1).OutSlot 0 outSlot ∧
    (inBlock 1).cfg.g0Table.length = 96 ∧ (inBlock 1).cfg.g1Table.length = 96 ∧
    0x20 ≤ (0x20#8).toNat ∧ (0x7F#8).toNat ≤ 0x7F ∧ 0xA0 ≤ (0xA0#8).toNat := by decide +kernel

theorem witness_ClassifierTransitions :
    (1#6 ≠ 0 ∧ 63#6 ≠ 0 ∧ 63#6 ≠ 1#6) ∧ styleClassOf State.reset.cfg.styleClass 0 = .unset ∧
    (styleClassOf State.reset.cfg.styleClass 7 ≠ .unset ∧ styleOf State.reset 63 = .unset) ∧
    (styleClassOf State.reset.cfg.styleClass 4 ≠ .unset ∧ styleOf (setStyle 1 .popOn State.reset) 1 ≠ .unset ∧
      styleOf (setStyle 1 .popOn State.reset) 1 ≠ styleClassOf State.reset.cfg.styleClass 4) ∧
    styleClassOf State.reset.cfg.styleClass 1 = styleOf (setStyle 1 .popOn State.reset) 1 := by decide +kernel

theorem witness_VariableLengthC3AbandonsBlock :
    (inBlock 2).AtCode 2 ∧ 0x90 ≤ (0x90#8).toNat ∧ (0x9F#8).toNat ≤ 0x9F := by decide +kernel

theorem witness_ExtendedCharacters :
    (inBlock 2).AtCode 2 ∧ (inBlock 2).OutSlot 0 outSlot ∧ 0x20 ≤ (0x20#8).toNat ∧ (0x7F#8).toNat ≤ 0x7F ∧
    0xA0 ≤ (0xFF#8).toNat := by decide +kernel

theorem witness_CutCodeIsTruncated :
    (atSpl 2).fatal = false ∧ (atSpl 2).mode = .dataWait ∧ (atSpl 2).cfg.c1.admissible = true ∧
    (Instr.spl 5 10).wf (atSpl 2).cfg.c1 = true ∧
    (Instr.spl 5 10).level = .code ∧ 0 < (atSpl 2).sbEnd.val - (atSpl 2).rd.val ∧
    (atSpl 2).sbEnd.val - (atSpl 2).rd.val < (encode (atSpl 2).cfg.tags (.spl 5 10)).length := by
  decide +kernel

/-- No output buffer, and a full one; a code of each length and each kind of unit. -/
theorem witness_UnitWithoutRoomIsFatal :
    (∀ n ∈ [1, 2, 3, 4, 5, 6, 7], ({ inBlock n with out := none }).AtCode n) ∧
    ({ inBlock 7 with out := none }).noRoom ∧ (inBlock 7).cfg.c1.admissible = true ∧
    (∀ i ∈ [Instr.nul, .g1 0xFF, .ext1G2 0x20, .p16 1 2, .spc 1 2 3, .swa 1 2 3 4, .ext1C34 0x80 1 2 3 4,
        .df0 1 2 3 4 5 6],
      i.wf (inBlock 7).cfg.c1 = true ∧ yieldsUnit (inBlock 7).cfg.c0Known i = true ∧
        ({ inBlock 7 with out := none }).AtCode i.tableLength) ∧
    (let p := { outSlot with maxNumElements := 0 }
     let s := { inBlock 3 with pool := [p] }
     s.AtCode 3 ∧ s.out = some 0 ∧ s.pool[0]? = some p ∧ p.inUse = true ∧
      p.numElements = p.maxNumElements) := by
  refine ⟨by decide +kernel, .inl rfl, by decide +kernel, by decide +kernel, by decide +kernel⟩

theorem witness_AllocateTakesFreeSlot :
    (noSlot.fatal = false ∧ ∀ p ∈ noSlot.pool, p.inUse = true) ∧
    (∀ p ∈ ({ inBlock 0 with pool := [outSlot] }).pool, p.inUse = true) ∧
    (State.reset.fatal = false ∧ ∃ p ∈ State.reset.pool, p.inUse = false) := by decide +kernel

theorem witness_BufferWrites :
    (inBlock 0).LiveSlot 0 outSlot ∧ outSlot.numElements ≠ outSlot.maxNumElements ∧
    ({ outSlot with maxNumElements := 0 }).numElements = ({ outSlot with maxNumElements := 0 }).maxNumElements := by
  decide +kernel

theorem witness_ReaderCount :
    (inBlock 0).LiveSlot 0 outSlot ∧ outSlot.readers = 1 ∧
    ({ inBlock 0 with pool := [{ outSlot with readers := 2 }] }).LiveSlot 0 { outSlot with readers := 2 } ∧
    ({ inBlock 0 with pool := [{ outSlot with readers := 0 }] }).LiveSlot 0 { outSlot with readers := 0 } := by
  decide +kernel

theorem witness_BadHandleIsFatal :
    (inBlock 0).fatal = false ∧ (inBlock 0).badHandle none ∧ (inBlock 0).badHandle (some 1) ∧
    (inBlock 0).badHandle (some 2) := by
  refine ⟨rfl, trivial, fun p h => ?_, fun p h => ?_⟩
  · have h1 : (inBlock 0).pool[1]? = some freeSlot0 := rfl
    rw [h1] at h; cases h; rfl
  · have h2 : (inBlock 0).pool[2]? = none := rfl
    rw [h2] at h; cases h

theorem witness_BufferLifecycle : (inBlock 0).LiveSlot 0 outSlot ∧ outSlot.readers = 1 := by decide +kernel

theorem witness_DispatchToNoSinks : (inBlock 0).LiveSlot 0 outSlot ∧ (inBlock 0).sinks = [] := by
  decide +kernel

/-- With a script, and with none, where the free values answer. -/
theorem witness_DispatchCallsEverySink :
    (let s := oneSink false [.releaseGiven] (inBlock 0)
     s.LiveSlot 0 outSlot ∧ 1 ≤ outSlot.readers ∧ s.sinks ≠ [] ∧ s.dutifulSinks) ∧
    (let s := { oneSink false [] (inBlock 0) with replies := [] }
     s.LiveSlot 0 outSlot ∧ s.sinks ≠ [] ∧ s.dutifulSinks) := by decide +kernel

theorem witness_ShutdownCallsEverySink :
    (let s := oneSink true [] State.reset
     s.fatal = false ∧ s.dutifulSinks) ∧
    (State.reset.fatal = false ∧ State.reset.dutifulSinks) := by decide +kernel

theorem witness_RegisterSinkCases :
    State.reset.fatal = false ∧ State.reset.phase = .host ∧ BufType.rawCc ≠ .dtvccUnits ∧
    State.reset.sinks.length ≠ State.reset.cfg.maxSinks ∧
    (let s := { State.reset with sinks := List.replicate 4 { sink := 1, consumes := .dtvccUnits } }
     s.sinks.length = s.cfg.maxSinks) := by decide +kernel

theorem witness_UpstreamContract :
    (let s := { State.reset with terminated := true }
     s.fatal = false ∧ s.phase = .host ∧ s.terminated = true) ∧
    (State.reset.phase = .host ∧ State.reset.terminated = false ∧ State.reset.badHandle none) ∧
    (let s := { State.reset with pool := [outSlot] }
     s.pool[0]? = some outSlot ∧ outSlot.type ≠ .rawCc) ∧
    (let p : Slot := { outSlot with type := .rawCc, data := [.byte 1, .byte 2] }
     p.numElements % 3 ≠ 0) ∧
    inAccept.phase ≠ .host := by
  refine ⟨by decide +kernel, ⟨rfl, rfl, trivial⟩, by decide +kernel, by decide +kernel, by decide +kernel⟩

/-- A construct of each kind but packet-start; and the empty buffer. -/
theorem witness_AcceptAppendsAndAnswers_plain :
    let cs : List RawConstruct := [⟨0xFF, 0x41, 0x42⟩, ⟨0xFC, 1, 2⟩, ⟨0xFD, 1, 2⟩, ⟨0xFB, 1, 2⟩]
    let s := { State.reset with pool := [inbufSlot cs, inbufSlot []], pktLen := 126 }
    s.LiveSlot 0 (inbufSlot cs) ∧ s.LiveSlot 1 (inbufSlot []) ∧ s.phase = .host ∧ s.terminated = false ∧
    s.pktBuf.wf = true ∧ (∀ c ∈ cs, hdrTag c.hdr ≠ s.cfg.tags.pktStart) ∧
    s.pktLen.val + (packetDataBytes s.cfg.tags cs).length ≤ 128 := by decide +kernel

/-- A machine with the packet of one unit assembled, and the input buffer of the packet-start that flushes it. -/
def beforeStart (free : List Slot) (s : State) : State :=
  { packet [0x40, 0x21, 0x41, 0x00] s with pool := inbufSlot [⟨0xFE, 0x40, 0x21⟩] :: free }

/-- The packet is delivered to a sink that answers false; there is no sink; there is no slot for the units. -/
theorem witness_AcceptAppendsAndAnswers_dispatch :
    let p := inbufSlot [⟨0xFE, 0x40, 0x21⟩]
    (∀ s ∈ [beforeStart [freeSlot0] (oneSink false [.releaseGiven] State.reset),
        beforeStart [freeSlot0] State.reset, beforeStart [] State.reset],
      s.LiveSlot 0 p ∧ s.phase = .host ∧ s.terminated = false ∧ s.dutifulSinks) ∧
    p.type = .rawCc ∧ p.numElements % 3 = 0 ∧ 1 ≤ p.readers ∧
    (after (.accept (some 0)) (beforeStart [freeSlot0] (oneSink false [] State.reset))).ret =
      some (.bool false) ∧
    (after (.accept (some 0)) (beforeStart [freeSlot0] State.reset)).ret = some (.bool false) ∧
    (after (.accept (some 0)) (beforeStart [] State.reset)).fatal = true := by decide +kernel

theorem witness_TerminateFlushesShutsDownReports :
    State.reset.fatal = false ∧ State.reset.phase = .host ∧ State.reset.terminated = false ∧
    State.reset.pktLen.val = 0 ∧
    (let u := State.afterEmptyFlush { State.reset with ret := none, ok := true, inProgress := .terminate }
     u.fatal = false ∧ u.dutifulSinks) ∧
    ∃ u, exec .flush { packet [0x41, 0x21, 0x41, 0x00] State.reset with
        ret := none, ok := true, inProgress := .terminate } = .next u ∧ u.fatal = false :=
  ⟨rfl, rfl, rfl, rfl, by decide +kernel, _, rfl, by decide +kernel⟩

theorem witness_ClassifierNeverAltersOutput :
    State.reset.withoutDiagnosis = (setStyle 1 .ticker State.reset).withoutDiagnosis := by decide +kernel

theorem witness_BlockRunsStepByStep :
    beforeBlock.fatal = false ∧ beforeBlock.mode = .dataWait ∧ beforeBlock.cfg.c1.admissible = true ∧
    (openBlock beforeBlock).fatal = false := by
  decide +kernel

theorem witness_ParseRunsStepByStep : atBlockHeader.fatal = false := rfl

theorem witness_AcceptRunsStepByStep :
    let s := { State.reset with pool := [inbufSlot [⟨0xFF, 0x41, 0x42⟩]] }
    s.fatal = false ∧ s.phase = .host ∧ (enterAccept (some 0) { s with ret := none }).fatal = false := by
  decide +kernel

end Sys2Proof.Tests
end

section
/-! The decoder and the encoder of level C invert each other (30_encoding.md R98 to R115). -/

namespace Sys2Proof

section CodeRows

variable {c : C1Table} {b e : Byte} {rest : List Byte}

theorem Byte.eq_ofNat {n : Nat} (h : b.toNat = n) : b = BitVec.ofNat 8 n := by simp [← h]

theorem Byte.within_iff {lo hi : Nat} : Byte.within b lo hi = true ↔ lo ≤ b.toNat ∧ b.toNat ≤ hi := by
  simp [Byte.within]

theorem Byte.within_and_true {lo hi : Nat} (h : lo ≤ b.toNat ∧ b.toNat ≤ hi) :
    (Byte.within b lo hi && true) = true := by
  rw [Byte.within_iff.2 h, Bool.and_self]

/-! ### The rows of a code's first byte -/

theorem decodeCode_c0Single (h : b.toNat ≤ 0x0F) :
    decodeCode c (b :: rest) = .ok (c0SingleInstr b, rest) := by
  simp only [decodeCode, if_pos h]

theorem decodeCode_ext1 : decodeCode c (0x10 :: rest) = decodeExtended rest := rfl

theorem decodeCode_c0Rsv2 (h : 0x11 ≤ b.toNat ∧ b.toNat ≤ 0x17) :
    decodeCode c (b :: rest) = take1 (.c0Rsv2 b) rest := by
  simp only [decodeCode]
  rw [if_neg (by omega), if_neg (by omega), if_pos h.2]

theorem decodeCode_p16 : decodeCode c (0x18 :: rest) = take2 .p16 rest := rfl

theorem decodeCode_c0Rsv3 (h : 0x19 ≤ b.toNat ∧ b.toNat ≤ 0x1F) :
    decodeCode c (b :: rest) = take2 (.c0Rsv3 b) rest := by
  simp only [decodeCode]
  rw [if_neg (by omega), if_neg (by omega), if_neg (by omega), if_neg (by omega), if_pos h.2]

theorem decodeCode_g0 (h : 0x20 ≤ b.toNat ∧ b.toNat ≤ 0x7F) :
    decodeCode c (b :: rest) = .ok (.g0 b, rest) := by
  simp only [decodeCode]
  rw [if_neg (by omega), if_neg (by omega), if_neg (by omega), if_neg (by omega), if_neg (by omega),
    if_pos h.2]

theorem decodeCode_c1 (h : 0x80 ≤ b.toNat ∧ b.toNat ≤ 0x9F) :
    decodeCode c (b :: rest) = decodeC1 c b rest := by
  simp only [decodeCode]
  rw [if_neg (by omega), if_neg (by omega), if_neg (by omega), if_neg (by omega), if_neg (by omega),
    if_neg (by omega), if_pos h.2]

theorem decodeCode_g1 (h : 0xA0 ≤ b.toNat) : decodeCode c (b :: rest) = .ok (.g1 b, rest) := by
  simp only [decodeCode]
  rw [if_neg (by omega), if_neg (by omega), if_neg (by omega), if_neg (by omega), if_neg (by omega),
    if_neg (by omega), if_neg (by omega)]

theorem decodeCode_c1Command (hr : c.isReserved b = false) (h : 0x80 ≤ b.toNat ∧ b.toNat ≤ 0x9F) :
    decodeCode c (b :: rest) = decodeC1Command b (c.lenOf b - 1) rest := by
  simp [decodeCode_c1 h, decodeC1, hr]

theorem decodeCode_reserved (hr : c.isReserved b = true) (h : 0x80 ≤ b.toNat ∧ b.toNat ≤ 0x9F) :
    decodeCode c (b :: rest) = takeReserved b (c.lenOf b - 1) rest := by
  simp [decodeCode_c1 h, decodeC1, hr]

/-! ### The rows of the byte after EXT1 -/

theorem decodeExtended_c20 (h : e.toNat ≤ 0x07) : decodeExtended (e :: rest) = .ok (.ext1C20 e, rest) := by
  simp only [decodeExtended, if_pos h]

theorem decodeExtended_c21 (h : 0x08 ≤ e.toNat ∧ e.toNat ≤ 0x0F) :
    decodeExtended (e :: rest) = take1 (.ext1C21 e) rest := by
  simp only [decodeExtended]
  rw [if_neg (by omega), if_pos h.2]

theorem decodeExtended_c22 (h : 0x10 ≤ e.toNat ∧ e.toNat ≤ 0x17) :
    decodeExtended (e :: rest) = take2 (.ext1C22 e) rest := by
  simp only [decodeExtended]
  rw [if_neg (by omega), if_neg (by omega), if_pos h.2]

theorem decodeExtended_c23 (h : 0x18 ≤ e.toNat ∧ e.toNat ≤ 0x1F) :
    decodeExtended (e :: rest) = take3 (.ext1C23 e) rest := by
  simp only [decodeExtended]
  rw [if_neg (by omega), if_neg (by omega), if_neg (by omega), if_pos h.2]

theorem decodeExtended_g2 (h : 0x20 ≤ e.toNat ∧ e.toNat ≤ 0x7F) :
    decodeExtended (e :: rest) = .ok (.ext1G2 e, rest) := by
  simp only [decodeExtended]
  rw [if_neg (by omega), if_neg (by omega), if_neg (by omega), if_neg (by omega), if_pos h.2]

theorem decodeExtended_c34 (h : 0x80 ≤ e.toNat ∧ e.toNat ≤ 0x87) :
    decodeExtended (e :: rest) = take4 (.ext1C34 e) rest := by
  simp only [decodeExtended]
  rw [if_neg (by omega), if_neg (by omega), if_neg (by omega), if_neg (by omega), if_neg (by omega),
    if_pos h.2]

theorem decodeExtended_c35 (h : 0x88 ≤ e.toNat ∧ e.toNat ≤ 0x8F) :
    decodeExtended (e :: rest) = take5 (.ext1C35 e) rest := by
  simp only [decodeExtended]
  rw [if_neg (by omega), if_neg (by omega), if_neg (by omega), if_neg (by omega), if_neg (by omega),
    if_neg (by omega), if_pos h.2]

theorem decodeExtended_c3Var (h : 0x90 ≤ e.toNat ∧ e.toNat ≤ 0x9F) :
    decodeExtended (e :: rest) = .ok (.ext1C3Var e, rest) := by
  simp only [decodeExtended]
  rw [if_neg (by omega), if_neg (by omega), if_neg (by omega), if_neg (by omega), if_neg (by omega),
    if_neg (by omega), if_neg (by omega), if_pos h.2]

theorem decodeExtended_g3 (h : 0xA0 ≤ e.toNat) : decodeExtended (e :: rest) = .ok (.ext1G3 e, rest) := by
  simp only [decodeExtended]
  rw [if_neg (by omega), if_neg (by omega), if_neg (by omega), if_neg (by omega), if_neg (by omega),
    if_neg (by omega), if_neg (by omega), if_neg (by omega)]

/-! ### Decoding what the encoder wrote -/

/-- A single-byte C0 code that no row names is `C0_UNK1` (R100). -/
theorem c0SingleInstr_of_unknown (h : (Instr.c0Unk1 b).inRange = true) : c0SingleInstr b = .c0Unk1 b := by
  simp only [Instr.inRange, Bool.and_eq_true, bne_iff_ne, ne_eq] at h
  obtain ⟨⟨⟨⟨⟨⟨-, hnul⟩, hetx⟩, hbs⟩, hff⟩, hcr⟩, hhcr⟩ := h
  unfold c0SingleInstr
  split
  case h_1 hb => exact absurd (BitVec.eq_of_toNat_eq hb) hnul
  case h_2 hb => exact absurd (BitVec.eq_of_toNat_eq hb) hetx
  case h_3 hb => exact absurd (BitVec.eq_of_toNat_eq hb) hbs
  case h_4 hb => exact absurd (BitVec.eq_of_toNat_eq hb) hff
  case h_5 hb => exact absurd (BitVec.eq_of_toNat_eq hb) hcr
  case h_6 hb => exact absurd (BitVec.eq_of_toNat_eq hb) hhcr
  case h_7 => rfl

/-- The encoding of a C1 command begins with its code, and the decoder's row of that code reads the rest. -/
theorem decodeCode_encode_c1Command {i : Instr} (t : Tags) (rest : List Byte) (hb : i.c1Code = some b)
    (hr : c.isReserved b = false) : decodeCode c (encode t i ++ rest) = .ok (i, rest) := by
  cases i <;> cases hb <;> exact decodeCode_c1Command hr (by decide)

/-- A reserved code with the payload that `C1_LEN` gives it is read back whole (R296). -/
theorem decodeCode_encode_reserved {r : ReservedCode} (t : Tags) (rest : List Byte)
    (hw : (Instr.c1Rsv r).wf c = true) :
    decodeCode c (encode t (.c1Rsv r) ++ rest) = .ok (.c1Rsv r, rest) := by
  simp only [Instr.wf, Instr.inRange, Bool.and_eq_true, decide_eq_true_eq, Byte.within_iff] at hw
  obtain ⟨hrange, hres, hlen⟩ := hw
  have hn : c.lenOf r.code - 1 = r.payload.length := by omega
  rw [encode, List.cons_append, decodeCode_reserved hres hrange, hn]
  simp [takeReserved]

/-- A well-formed C1 command has a code that is not reserved (45_c1_commands.md R272). -/
theorem Instr.c1Code_not_reserved {i : Instr} (hb : i.c1Code = some b) (hw : i.wf c = true) :
    c.isReserved b = false := by
  cases i <;> cases hb <;> simpa [Instr.wf, Instr.c1Code, Instr.inRange] using hw

/-- Decoding the encoding of a well-formed code gives it back, whatever bytes follow (R98 to R115). -/
theorem decodeCode_encode {i : Instr} (t : Tags) (rest : List Byte) (hw : i.wf c = true)
    (hl : i.level = .code) : decodeCode c (encode t i ++ rest) = .ok (i, rest) := by
  have hrange : i.inRange = true := (Bool.and_eq_true_iff.1 hw).1
  cases i with
  | nul | etx | bs | ff | cr | hcr => rfl
  | c0Unk1 b =>
    have hle : b.toNat ≤ 0x0F := by
      simp only [Instr.inRange, Bool.and_eq_true, Byte.within_iff] at hrange
      omega
    exact (decodeCode_c0Single hle).trans (by rw [c0SingleInstr_of_unknown hrange]; rfl)
  | ext1C20 e => exact decodeExtended_c20 (Byte.within_iff.1 hrange).2
  | ext1C21 e x1 => exact decodeExtended_c21 (Byte.within_iff.1 hrange)
  | ext1C22 e x1 x2 => exact decodeExtended_c22 (Byte.within_iff.1 hrange)
  | ext1C23 e x1 x2 x3 => exact decodeExtended_c23 (Byte.within_iff.1 hrange)
  | ext1G2 e => exact decodeExtended_g2 (Byte.within_iff.1 hrange)
  | ext1C34 e x1 x2 x3 x4 => exact decodeExtended_c34 (Byte.within_iff.1 hrange)
  | ext1C35 e x1 x2 x3 x4 x5 => exact decodeExtended_c35 (Byte.within_iff.1 hrange)
  | ext1C3Var e => exact decodeExtended_c3Var (Byte.within_iff.1 hrange)
  | ext1G3 e => exact decodeExtended_g3 (Byte.within_iff.1 hrange).1
  | c0Rsv2 b p1 => exact decodeCode_c0Rsv2 (Byte.within_iff.1 hrange)
  | p16 p1 p2 => rfl
  | c0Rsv3 b p1 p2 => exact decodeCode_c0Rsv3 (Byte.within_iff.1 hrange)
  | g0 b => exact decodeCode_g0 (Byte.within_iff.1 hrange)
  | g1 b => exact decodeCode_g1 (Byte.within_iff.1 hrange).1
  | c1Rsv r => exact decodeCode_encode_reserved t rest hw
  | cw0 | cw1 | cw2 | cw3 | cw4 | cw5 | cw6 | cw7 | clw | dsw | hdw | tgw | dlw | dly | dlc | rst | spa
  | spc | spl | swa | df0 | df1 | df2 | df3 | df4 | df5 | df6 | df7 =>
    exact decodeCode_encode_c1Command t rest rfl (Instr.c1Code_not_reserved rfl hw)
  | _ => cases hl

/-! ### What the decoder reads -/

/-- The reading `d` is a well-formed code whose encoding, with the bytes after it, is `bytes`. -/
def ReadsCode (c : C1Table) (t : Tags) (bytes : List Byte) (d : Decoded) : Prop :=
  ∃ i rest, d = .ok (i, rest) ∧ i.wf c = true ∧ i.level = .code ∧ encode t i ++ rest = bytes

/-- Every code is 1 to 7 bytes long under admissible tables (45_c1_commands.md R270). -/
theorem C1Table.lenOf_bounds (hc : c.admissible = true) (b : Byte) : 1 ≤ c.lenOf b ∧ c.lenOf b ≤ 7 := by
  have hlen : ∀ n ∈ c.len, 1 ≤ n ∧ n ≤ 7 := by
    simp only [C1Table.admissible, Bool.and_eq_true, List.all_eq_true, decide_eq_true_eq] at hc
    obtain ⟨⟨⟨⟨⟨⟨⟨-, hlen⟩, -⟩, -⟩, -⟩, -⟩, -⟩, -⟩ := hc
    exact hlen
  unfold C1Table.lenOf
  rw [List.getD_eq_getElem?_getD]
  cases h : c.len[b.toNat - 0x80]? with
  | none => decide
  | some n => exact hlen n (List.mem_of_getElem? h)

/-- Admissible tables reserve the four codes whose rule is R296 (log 26). -/
theorem C1Table.isReserved_of_noFormat (hc : c.admissible = true) (h : 0x93 ≤ b.toNat ∧ b.toNat ≤ 0x96) :
    c.isReserved b = true := by
  simp only [C1Table.admissible, Bool.and_eq_true] at hc
  obtain ⟨⟨⟨⟨⟨⟨⟨-, -⟩, -⟩, h93⟩, h94⟩, h95⟩, h96⟩, -⟩ := hc
  have hb : b = 0x93 ∨ b = 0x94 ∨ b = 0x95 ∨ b = 0x96 := by bv_omega
  obtain rfl | rfl | rfl | rfl := hb <;> assumption

theorem c0SingleInstr_reads (t : Tags) (h : b.toNat ≤ 0x0F) :
    ReadsCode c t (b :: rest) (.ok (c0SingleInstr b, rest)) := by
  unfold c0SingleInstr
  split
  case h_7 =>
    refine ⟨_, _, rfl, ?_, rfl, rfl⟩
    simp only [imp_false] at *
    simp only [Instr.wf, Instr.inRange, Instr.c1Code, Option.all_none, Bool.and_true, Bool.and_eq_true,
      Byte.within_iff, bne_iff_ne, ne_eq, BitVec.ofNat_eq_ofNat, BitVec.toNat_eq, BitVec.toNat_ofNat]
    omega
  all_goals
    next hb => exact ⟨_, _, rfl, rfl, rfl, by rw [Byte.eq_ofNat hb]; rfl⟩

theorem takeReserved_reads (t : Tags) (hc : c.admissible = true) (hr : c.isReserved b = true)
    (h : 0x80 ≤ b.toNat ∧ b.toNat ≤ 0x9F) (hlen : 6 ≤ rest.length) :
    ReadsCode c t (b :: rest) (takeReserved b (c.lenOf b - 1) rest) := by
  obtain ⟨hpos, hmax⟩ := C1Table.lenOf_bounds hc b
  have hfits : c.lenOf b - 1 ≤ rest.length := by omega
  refine ⟨_, _, if_pos hfits, ?_, rfl, by simp [encode]⟩
  simp only [Instr.wf, Instr.inRange, hr, Byte.within_iff.2 h, List.length_take, Bool.true_and,
    decide_eq_true_eq]
  omega

theorem decodeC1Command_reads (t : Tags) (hc : c.admissible = true) (hr : c.isReserved b = false)
    (h : 0x80 ≤ b.toNat ∧ b.toNat ≤ 0x9F) (n : Nat) (x1 x2 x3 x4 x5 x6 : Byte) :
    ReadsCode c t (b :: x1 :: x2 :: x3 :: x4 :: x5 :: x6 :: rest)
      (decodeC1Command b n (x1 :: x2 :: x3 :: x4 :: x5 :: x6 :: rest)) := by
  unfold decodeC1Command
  split
  case h_29 =>
    have hrow : 0x93 ≤ b.toNat ∧ b.toNat ≤ 0x96 := by
      simp only [imp_false] at *
      omega
    simp [C1Table.isReserved_of_noFormat hc hrow] at hr
  all_goals
    next hb =>
      obtain rfl := Byte.eq_ofNat hb
      exact ⟨_, _, rfl, by simp [Instr.wf, Instr.inRange, Instr.c1Code, hr], rfl, rfl⟩

theorem decodeExtended_reads (t : Tags) (e x1 x2 x3 x4 x5 : Byte) :
    ReadsCode c t (0x10 :: e :: x1 :: x2 :: x3 :: x4 :: x5 :: rest)
      (decodeExtended (e :: x1 :: x2 :: x3 :: x4 :: x5 :: rest)) := by
  obtain h | h | h | h | h | h | h | h | h :
      (0 ≤ e.toNat ∧ e.toNat ≤ 0x07) ∨ (0x08 ≤ e.toNat ∧ e.toNat ≤ 0x0F) ∨
      (0x10 ≤ e.toNat ∧ e.toNat ≤ 0x17) ∨ (0x18 ≤ e.toNat ∧ e.toNat ≤ 0x1F) ∨
      (0x20 ≤ e.toNat ∧ e.toNat ≤ 0x7F) ∨ (0x80 ≤ e.toNat ∧ e.toNat ≤ 0x87) ∨
      (0x88 ≤ e.toNat ∧ e.toNat ≤ 0x8F) ∨ (0x90 ≤ e.toNat ∧ e.toNat ≤ 0x9F) ∨
      (0xA0 ≤ e.toNat ∧ e.toNat ≤ 0xFF) := by
    have := e.isLt
    omega
  · exact ⟨_, _, decodeExtended_c20 h.2, Byte.within_and_true h, rfl, rfl⟩
  · exact ⟨_, _, decodeExtended_c21 h, Byte.within_and_true h, rfl, rfl⟩
  · exact ⟨_, _, decodeExtended_c22 h, Byte.within_and_true h, rfl, rfl⟩
  · exact ⟨_, _, decodeExtended_c23 h, Byte.within_and_true h, rfl, rfl⟩
  · exact ⟨_, _, decodeExtended_g2 h, Byte.within_and_true h, rfl, rfl⟩
  · exact ⟨_, _, decodeExtended_c34 h, Byte.within_and_true h, rfl, rfl⟩
  · exact ⟨_, _, decodeExtended_c35 h, Byte.within_and_true h, rfl, rfl⟩
  · exact ⟨_, _, decodeExtended_c3Var h, Byte.within_and_true h, rfl, rfl⟩
  · exact ⟨_, _, decodeExtended_g3 h.1, Byte.within_and_true h, rfl, rfl⟩

/-- "every byte string has exactly one decoding" (70_reset_and_hazards.md R410), its first half: seven bytes
or more begin with a code (R98, R99, R113). -/
theorem decodeCode_reads (t : Tags) (hc : c.admissible = true) {bytes : List Byte}
    (hlen : maxCodeLen ≤ bytes.length) : ReadsCode c t bytes (decodeCode c bytes) := by
  match bytes, hlen with
  | b :: x1 :: x2 :: x3 :: x4 :: x5 :: x6 :: rest, _ =>
    obtain h | rfl | h | rfl | h | h | h | h :
        b.toNat ≤ 0x0F ∨ b = 0x10 ∨ (0x11 ≤ b.toNat ∧ b.toNat ≤ 0x17) ∨ b = 0x18 ∨
        (0x19 ≤ b.toNat ∧ b.toNat ≤ 0x1F) ∨ (0x20 ≤ b.toNat ∧ b.toNat ≤ 0x7F) ∨
        (0x80 ≤ b.toNat ∧ b.toNat ≤ 0x9F) ∨ (0xA0 ≤ b.toNat ∧ b.toNat ≤ 0xFF) := by bv_omega
    · rw [decodeCode_c0Single h]
      exact c0SingleInstr_reads t h
    · exact decodeExtended_reads t x1 x2 x3 x4 x5 x6
    · exact ⟨_, _, decodeCode_c0Rsv2 h, Byte.within_and_true h, rfl, rfl⟩
    · exact ⟨_, _, decodeCode_p16, rfl, rfl, rfl⟩
    · exact ⟨_, _, decodeCode_c0Rsv3 h, Byte.within_and_true h, rfl, rfl⟩
    · exact ⟨_, _, decodeCode_g0 h, Byte.within_and_true h, rfl, rfl⟩
    · cases hr : c.isReserved b with
      | true =>
        rw [decodeCode_reserved hr h]
        exact takeReserved_reads t hc hr h (by simp)
      | false =>
        rw [decodeCode_c1Command hr h]
        exact decodeC1Command_reads t hc hr h _ x1 x2 x3 x4 x5 x6
    · exact ⟨_, _, decodeCode_g1 h.1, Byte.within_and_true h, rfl, rfl⟩

/-- No code begins another: at most one begins a string of bytes (R410, its second half). -/
theorem eq_of_encode_prefix {i j : Instr} {t : Tags} {bytes : List Byte} (hwi : i.wf c = true)
    (hli : i.level = .code) (hwj : j.wf c = true) (hlj : j.level = .code) (hi : encode t i <+: bytes)
    (hj : encode t j <+: bytes) : i = j := by
  obtain ⟨ri, rfl⟩ := hi
  obtain ⟨rj, hrj⟩ := hj
  have hd : decodeCode c (encode t i ++ ri) = .ok (j, rj) := hrj ▸ decodeCode_encode t rj hwj hlj
  rw [decodeCode_encode t ri hwi hli] at hd
  cases hd
  rfl

/-- The block holds the code of `i` or, where it ends inside it, the front of it. The decoder, given the block
with other bytes after it, reads a code that agrees with `i` in every byte of the block (43_decoder_c0.md R224;
log 15). -/
theorem take_encode_of_block {i j : Instr} {t : Tags} {block pad : List Byte} (hwi : i.wf c = true)
    (hli : i.level = .code) (hwj : j.wf c = true) (hlj : j.level = .code)
    (hi : (encode t i).take block.length = block.take (encode t i).length)
    (hj : encode t j <+: block ++ pad) :
    (encode t j).take block.length = (encode t i).take block.length := by
  by_cases hfits : (encode t i).length ≤ block.length
  · have hfront : encode t i <+: block := by
      rw [List.take_of_length_le hfits] at hi
      exact hi ▸ List.take_prefix _ _
    rw [eq_of_encode_prefix hwi hli hwj hlj (hfront.trans (List.prefix_append _ _)) hj]
  · have hcut : block <+: encode t i := by
      rw [List.take_of_length_le (l := block) (by omega)] at hi
      exact hi ▸ List.take_prefix _ _
    obtain hle | hle := Nat.le_total (encode t j).length block.length
    · have hfront : encode t j <+: block :=
        List.prefix_of_prefix_length_le hj (List.prefix_append _ _) hle
      rw [eq_of_encode_prefix hwi hli hwj hlj List.prefix_rfl (hfront.trans hcut)]
    · have hwhole : block <+: encode t j :=
        List.prefix_of_prefix_length_le (List.prefix_append _ _) hj hle
      rw [← List.prefix_iff_eq_take.1 hwhole, ← List.prefix_iff_eq_take.1 hcut]

end CodeRows

end Sys2Proof
end

section
/-! What a step runs (00_scope.md R6, 10_state.md R24). -/

namespace Sys2Proof.Machine

variable {s t : State} {i : Instr}

/-! ### The meaning of a code -/

/-- The meaning of a level-C instruction is its bytes fed to the decoder (43_decoder_c0.md R221). -/
theorem exec_of_level_code (tags : Tags) (hl : i.level = .code) (s : State) :
    exec i s = code (encode tags i) s := by
  cases i with
  | ps | psInvalid | pd | pdInvalid | f1 | f2 | pktHdr | sbNull | sbSvc0 | sbStd | sbExt => cases hl
  | allocate | append | setTimestamp | addReader | release | dispatch | shutdown | registerSink => cases hl
  | accept | terminate | reset | flush | parseBlocks | processBlock => cases hl
  | _ => rfl

/-- A code's bytes beyond the end of its block do not matter (R224). -/
theorem code_congr {bytes bytes' : List Byte}
    (h : bytes.take (s.sbEnd.val - s.rd.val) = bytes'.take (s.sbEnd.val - s.rd.val)) :
    code bytes s = code bytes' s := by
  have hrun : runCode bytes s = runCode bytes' s := by simp only [runCode, h]
  simp only [code, live, hrun]

@[simp] theorem length_pktBytes (s : State) (lo hi : Nat) : (pktBytes s lo hi).length = hi - lo := by
  simp [pktBytes]

/-! ### Which instruction a step fetches -/

theorem fetch_accept {h n : Nat} (hp : s.phase = .accept) (hc : s.inProgress = .accept h n)
    (hn : 3 * s.cidx + 3 ≤ n) :
    fetch s = decoded (decode .construct s.cfg
      [inbufByte s h (3 * s.cidx), inbufByte s h (3 * s.cidx + 1), inbufByte s h (3 * s.cidx + 2)]) := by
  simp only [fetch, fetchBytes, hp, hc, if_pos hn]

theorem fetch_header (hp : s.phase = .header) :
    fetch s = decoded (decode .packetHeader s.cfg [pktByte s 0]) := by
  simp only [fetch, fetchBytes, hp]

theorem fetch_parse (hp : s.phase = .parse) (hn : 2 ≤ s.pktLen.val - s.rd.val) :
    fetch s = decoded (decode .blockHeader s.cfg [pktByte s s.rd.val, pktByte s (s.rd.val + 1)]) := by
  simp only [fetch, fetchBytes, hp, if_neg (Nat.not_lt.2 hn)]

theorem fetch_block (hp : s.phase = .block) (hn : s.rd.val < s.sbEnd.val) :
    fetch s = decoded (decode .code s.cfg
      (pktBytes s s.rd.val s.sbEnd.val ++ List.replicate maxCodeLen 0)) := by
  simp only [fetch, fetchBytes, hp, if_pos hn]

/-! ### What a step does with it -/

theorem step_eq_stepHost (h : s.fatal = true ∨ s.phase = .host) : step s = stepHost s := by
  obtain h | h := h <;> simp [step, h]

theorem step_eq_stepInside (hf : s.fatal = false) (hp : s.phase ≠ .host) : step s = stepInside s := by
  simp [step, hf, hp]

/-- Inside an operation a step is the fetched instruction, then what its loop adds. -/
theorem step_of_fetch (hf : s.fatal = false) (hp : s.phase ≠ .host) (hi : fetch s = some i)
    (hx : exec i s = .next t) : step s = .next (afterInstr s.phase t) := by
  rw [step_eq_stepInside hf hp]
  simp only [stepInside, hi, hx]

/-- The loops of the block headers and of the codes add nothing: their instructions move the cursor. -/
theorem step_of_fetch_of_parse_or_block (hf : s.fatal = false) (hp : s.phase = .parse ∨ s.phase = .block)
    (hi : fetch s = some i) : step s = exec i s := by
  have hafter : afterInstr s.phase = id := by obtain hp | hp := hp <;> rw [hp] <;> rfl
  rw [step_eq_stepInside hf (by obtain hp | hp := hp <;> simp [hp])]
  simp only [stepInside, hi, hafter]
  cases exec i s <;> rfl

/-- Inside a block, an instruction whose encoding stands at the cursor, as far as the block holds it, has the
same meaning as the one that is fetched. -/
theorem exec_eq_exec_fetch_block (hp : s.phase = .block) (hc : s.cfg.c1.admissible = true)
    (hw : i.wf s.cfg.c1 = true) (hl : i.level = .code) (hn : s.rd.val < s.sbEnd.val)
    (hbytes : (encode s.cfg.tags i).take (s.sbEnd.val - s.rd.val) =
      (pktBytes s s.rd.val s.sbEnd.val).take (encode s.cfg.tags i).length) :
    ∃ j, fetch s = some j ∧ exec j s = exec i s := by
  obtain ⟨j, rest, hd, hwj, hlj, hj⟩ := decodeCode_reads s.cfg.tags hc
    (bytes := pktBytes s s.rd.val s.sbEnd.val ++ List.replicate maxCodeLen 0) (by simp)
  refine ⟨j, by rw [fetch_block hp hn, decode, hd, decoded], ?_⟩
  have hagree := take_encode_of_block hw hl hwj hlj (by rwa [length_pktBytes]) ⟨rest, hj⟩
  rw [length_pktBytes] at hagree
  rw [exec_of_level_code s.cfg.tags hl, exec_of_level_code s.cfg.tags hlj, code_congr hagree]

end Sys2Proof.Machine
end

section
/-! The statements of 00_scope.md. -/

namespace Sys2Proof.Machine

/-- Settles O3: each word is a closed input of its level's decoder, which computes the instruction. -/
theorem specWordsDecode : Obligations.SpecWordsDecode := by
  refine ⟨?ps, ?pdInvalid, ?pktHdr, ?sbNull, ?sbSvc0, ?sbStd, ?sbExt, ?p16, ?g0, ?spl, ?df1, ?ext1C21⟩
  -- level A, the packet header, the block headers, level C
  case ps | pdInvalid => rfl
  case pktHdr => rfl
  case sbNull | sbSvc0 | sbStd | sbExt => rfl
  case p16 | g0 | spl | df1 | ext1C21 => rfl

/-- Settles O6, loop by loop. Inside a block the fetched code may differ from `i` in the bytes that the block
cuts off, which the decoder never takes (`exec_eq_exec_fetch_block`). -/
theorem stepRunsDecodedInstruction : Obligations.StepRunsDecodedInstruction := by
  refine ⟨?host, ?accept, ?header, ?parse, ?block⟩
  case host =>
    intro s i rest hs hreq hop
    rw [step_eq_stepHost hs]
    simp only [stepHost, hreq, if_pos hop]
  case accept =>
    intro s t h n i hf hp hc hn hd hx
    have hfetch : fetch s = some i := by rw [fetch_accept hp hc hn, hd, decoded]
    rw [step_of_fetch hf (by simp [hp]) hfetch hx, hp]
    rfl
  case header =>
    intro s t i hf hp hd hx
    have hfetch : fetch s = some i := by rw [fetch_header hp, hd, decoded]
    rw [step_of_fetch hf (by simp [hp]) hfetch hx, hp]
    rfl
  case parse =>
    intro s i rest hf hp hn hd
    have hfetch : fetch s = some i := by rw [fetch_parse hp hn, hd, decoded]
    exact step_of_fetch_of_parse_or_block hf (.inl hp) hfetch
  case block =>
    intro s i hf hp hc hw hl hn hbytes
    obtain ⟨j, hfetch, hexec⟩ := exec_eq_exec_fetch_block hp hc hw hl hn hbytes
    rw [step_of_fetch_of_parse_or_block hf (.inr hp) hfetch, hexec]

end Sys2Proof.Machine
end

section
/-! What an operation can do to the state. The updates stand in four layers, each with those of the one before
it: the substrate and the channels, the decoder, the packet, the upstream operations. Every operation of the model
is a chain of updates of its layer, which is shown once; what an update keeps, a chain keeps, so an invariant is
proved of the updates only. -/

namespace Sys2Proof.Machine

open Relation (ReflTransGen)

-- One proof at a time: in parallel they need more threads than the memory limit allows.
set_option Elab.async false

/-! ### The updates -/

/-- An update of what the substrate, the events and the channels own: every event but the zero-length one, a fatal
condition, a slot that stays sound, a call on the downstream channel, an answer (40_buffer_fanout.md R130 to R137,
60_exceptions.md R351, R370). -/
inductive SubstrateUpdate (s : State) : State → Prop
  | event (e : Event) (he : e ≠ .zeroLenPkt) : SubstrateUpdate s (raise e s)
  | fatal (c : FatalCause) : SubstrateUpdate s (raiseFatal c s)
  | slot (i : Nat) (q p : Slot) (hq : s.pool[i]? = some q) (hp : q.sound = true → p.sound = true) :
    SubstrateUpdate s (setSlot i p s)
  | call (c : SinkCall) : SubstrateUpdate s { s with sinkCalls := s.sinkCalls ++ [c] }
  | answer (r : List Reply) (n : Nat) : SubstrateUpdate s { s with replies := r, sinkTick := n }

/-- An update inside a service block: one of the substrate, the decoder's registers, the style registers, or a move
of `rd` that leaves no more bytes of the block ahead (10_state.md R24, R26 to R31). -/
inductive DecoderUpdate (s : State) : State → Prop
  | substrate {t : State} (h : SubstrateUpdate s t) : DecoderUpdate s t
  | registers (m : Mode) (r : PayloadCount) (c : Byte) (e : ExtPhase) (a : Vector Byte 6) (n : PayloadCount) :
    DecoderUpdate s { s with mode := m, remaining := r, cmd := c, extPhase := e, acc := a, accN := n }
  | style (r : Vector Style 63) : DecoderUpdate s { s with style := r }
  | ambiguous (svc : BitVec 6) : DecoderUpdate s (setAmbiguous svc s)
  | cursor (r : Cursor) (hr : s.sbEnd.val - r.val ≤ s.sbEnd.val - s.rd.val) : DecoderUpdate s { s with rd := r }

/-- An update inside a packet: one of the decoder, the transients of a packet and its blocks, the zero-length event
with its flag, the sequence register, the append of a pair, the end of a Flush (10_state.md R21 to R25, R30, R36). -/
inductive PacketUpdate (s : State) : State → Prop
  | decoder {t : State} (h : DecoderUpdate s t) : PacketUpdate s t
  | transients (ci : Nat) (rd : Cursor) (svc : BitVec 6) (size : BitVec 5) (hi : Cursor) (seq : BitVec 2)
    (out : Handle) (n : Nat) (ok : Bool) (ph : Phase) :
    PacketUpdate s
      { s with
        cidx := ci, rd := rd, sbSvc := svc, sbLen := size, sbEnd := hi, curSeq := seq
        out := out, expectN := n, ok := ok, phase := ph }
  | zeroLength : PacketUpdate s { raise .zeroLenPkt s with zeroLenLogged := true }
  | sequence (seq : BitVec 2) : PacketUpdate s { s with lastSeq := seq, lastSeqValid := true }
  | append (b0 b1 : Byte) : PacketUpdate s (appendPair b0 b1 s)
  | flushed : PacketUpdate s (endFlush s)

/-- An update of an upstream or wiring operation: one of the packet, the registers of the operation, a sink
registered within the bound, the report, `terminated` (10_state.md R23, R35, R38, 60_exceptions.md R392). -/
inductive OperationUpdate (s : State) : State → Prop
  | packet {t : State} (h : PacketUpdate s t) : OperationUpdate s t
  | operation (ts : Timestamp) (ci : Nat) (ok : Bool) (ph : Phase) (call : InProgress) (r : Option RetVal) :
    OperationUpdate s { s with curTs := ts, cidx := ci, ok := ok, phase := ph, inProgress := call, ret := r }
  | register (e : SinkEntry) (h : s.sinks.length ≠ s.cfg.maxSinks) :
    OperationUpdate s { s with sinks := s.sinks ++ [e] }
  | report : OperationUpdate s (report s)
  | terminated : OperationUpdate s { s with terminated := true }

/-- A chain of updates of the substrate and the channels. -/
abbrev SubstrateSteps : State → State → Prop := ReflTransGen SubstrateUpdate
/-- A chain of updates inside a service block. -/
abbrev DecoderSteps : State → State → Prop := ReflTransGen DecoderUpdate
/-- A chain of updates inside a packet. -/
abbrev PacketSteps : State → State → Prop := ReflTransGen PacketUpdate
/-- A chain of updates of any layer: what an instruction but Reset can do (`exec_evolves`). -/
abbrev Evolves : State → State → Prop := ReflTransGen OperationUpdate

variable {s t : State}

theorem SubstrateSteps.decoder (h : SubstrateSteps s t) : DecoderSteps s t := h.lift id fun _ _ => .substrate
theorem DecoderSteps.packet (h : DecoderSteps s t) : PacketSteps s t := h.lift id fun _ _ => .decoder
theorem PacketSteps.evolves (h : PacketSteps s t) : Evolves s t := h.lift id fun _ _ => .packet
theorem SubstrateSteps.packet (h : SubstrateSteps s t) : PacketSteps s t := h.decoder.packet
theorem SubstrateSteps.evolves (h : SubstrateSteps s t) : Evolves s t := h.packet.evolves

/-- The next line of a rule continues the chain, where it runs. -/
theorem steps_andThen {R : State → State → Prop} {f : State → State} (h : ReflTransGen R s t)
    (hf : ReflTransGen R t (f t)) : ReflTransGen R s (t.andThen f) :=
  andThen_induct h fun _ _ => h.trans hf

/-! ### The substrate -/

theorem Slot.sound_iff {p : Slot} :
    p.sound = true ↔ p.numElements ≤ p.maxNumElements ∧ (p.inUse = true ↔ 1 ≤ p.readers) := by
  rw [Slot.sound, Bool.and_eq_true, decide_eq_true_eq, beq_iff_eq, Bool.eq_iff_iff, decide_eq_true_eq]

theorem freshSlot_sound (type : BufType) (capacity : Nat) : (freshSlot type capacity).sound = true := by
  simp [Slot.sound_iff, freshSlot, Slot.numElements]

theorem raise_steps (e : Event) (s : State) (he : e ≠ .zeroLenPkt := by nofun) :
    SubstrateSteps s (raise e s) := .single (.event e he)

theorem raiseFatal_steps (c : FatalCause) (s : State) : SubstrateSteps s (raiseFatal c s) := .single (.fatal c)

theorem append_steps (h : Handle) (v : Element) (s : State) : SubstrateSteps s (append h v s) := by
  obtain heq | heq | ⟨i, p, -, hp, -, hroom, heq⟩ := append_cases h v s <;> rw [heq]
  · exact raiseFatal_steps _ s
  · exact raiseFatal_steps _ s
  · refine .single (.slot i p _ hp fun hs => ?_)
    simp only [Slot.sound_iff, Slot.numElements, List.length_append, List.length_singleton] at hs hroom ⊢
    exact ⟨by omega, hs.2⟩

theorem setTimestamp_steps (h : Handle) (ts : Timestamp) (s : State) : SubstrateSteps s (setTimestamp h ts s) := by
  obtain heq | ⟨i, p, -, hp, -, heq⟩ := setTimestamp_cases h ts s <;> rw [heq]
  · exact raiseFatal_steps _ s
  · exact .single (.slot i p _ hp fun hs => hs)

theorem addReader_steps (h : Handle) (s : State) : SubstrateSteps s (addReader h s) := by
  obtain heq | ⟨i, p, -, hp, huse, heq⟩ := addReader_cases h s <;> rw [heq]
  · exact raiseFatal_steps _ s
  · refine .single (.slot i p _ hp fun hs => ?_)
    obtain ⟨hroom, -⟩ := Slot.sound_iff.1 hs
    exact Slot.sound_iff.2 ⟨hroom, by simp [huse]⟩

theorem release_steps (h : Handle) (s : State) : SubstrateSteps s (release h s) := by
  obtain heq | ⟨i, p, -, hp, -, -, heq⟩ := release_cases h s <;> rw [heq]
  · exact raiseFatal_steps _ s
  · refine .single (.slot i p _ hp fun hs => ?_)
    obtain ⟨hroom, -⟩ := Slot.sound_iff.1 hs
    exact Slot.sound_iff.2 ⟨hroom, by simp [Nat.one_le_iff_ne_zero]⟩

theorem allocate_steps (type : BufType) (capacity : Nat) (s : State) :
    SubstrateSteps s (allocate type capacity s).2 := by
  obtain ⟨-, heq⟩ | ⟨i, p, hp, -, heq⟩ := allocate_cases type capacity s <;> rw [heq]
  · exact raiseFatal_steps _ s
  · exact .single (.slot i p _ hp fun _ => freshSlot_sound type capacity)

theorem emit_steps (body : Body) (s : State) : SubstrateSteps s (emit body s) := by
  unfold emit
  split
  · exact raiseFatal_steps _ s
  · exact append_steps _ _ s

/-! ### The downstream channel -/

theorem nextReply_steps (given : Handle) (s : State) : SubstrateSteps s (nextReply given s).2 := by
  obtain ⟨r, n, heq⟩ := nextReply_state given s
  exact heq ▸ .single (.answer r n)

theorem sinkAct_steps (given : Handle) (a : SinkAct) (s : State) : SubstrateSteps s (sinkAct given a s) := by
  cases a with
  | releaseGiven =>
    unfold sinkAct
    split
    · exact release_steps given s
    · exact .refl
  | release h => exact release_steps h s
  | addReader h => exact addReader_steps h s
  | allocate type capacity => exact allocate_steps type capacity s
  | append h v => exact append_steps h v s
  | setTimestamp h ts => exact setTimestamp_steps h ts s

theorem sinkActs_steps (given : Handle) (acts : List SinkAct) (s : State) :
    SubstrateSteps s (sinkActs given acts s) := by
  induction acts generalizing s with
  | nil => exact .refl
  | cons a rest ih => exact steps_andThen (sinkAct_steps given a s) (ih _)

theorem sinkAccept_steps (k : Nat) (e : SinkEntry) (buf : Nat) (s : State) :
    SubstrateSteps s (sinkAccept k e buf s).2 :=
  (ReflTransGen.single (.call _)).trans ((nextReply_steps (some buf) _).trans (sinkActs_steps (some buf) _ _))

theorem sinkTerminate_steps (k : Nat) (e : SinkEntry) (s : State) : SubstrateSteps s (sinkTerminate k e s).2 :=
  (ReflTransGen.single (.call _)).trans ((nextReply_steps none _).trans (sinkActs_steps none _ _))

theorem callSinks_steps {call : Nat → SinkEntry → State → Bool × State}
    (hcall : ∀ k e s, SubstrateSteps s (call k e s).2) (k : Nat) (sinks : List SinkEntry) (result : Bool)
    (s : State) : SubstrateSteps s (callSinks call k sinks result s).2 := by
  induction sinks generalizing k result s with
  | nil => exact .refl
  | cons e rest ih =>
    unfold callSinks
    split
    · exact .refl
    · exact (hcall k e s).trans (ih ..)

theorem addReaders_steps (h : Handle) (n : Nat) (s : State) : SubstrateSteps s (addReaders h n s) := by
  induction n generalizing s with
  | zero => exact .refl
  | succ n ih => exact steps_andThen (addReader_steps h s) (ih _)

theorem dispatch_steps (h : Handle) (s : State) : SubstrateSteps s (dispatch h s).2 := by
  unfold dispatch
  split
  · exact raiseFatal_steps _ s
  · split
    · exact raise_steps _ s
    · exact (addReaders_steps h _ s).trans (callSinks_steps (fun k e => sinkAccept_steps k e _) ..)

theorem shutdown_steps (s : State) : SubstrateSteps s (shutdown s).2 :=
  callSinks_steps sinkTerminate_steps ..

/-! ### The decoder -/

theorem complete_steps (s : State) : DecoderSteps s (complete s) := .single (.registers ..)

theorem truncated_steps (s : State) : DecoderSteps s (truncated s) :=
  (raise_steps _ s).decoder.trans (complete_steps _)

theorem countDown_steps (s : State) : DecoderSteps s (countDown s) := .single (.registers ..)

theorem collect_steps (b : Byte) (s : State) : DecoderSteps s (collect b s) := .single (.registers ..)

theorem classify_steps (svc : BitVec 6) (ws : BitVec 3) (s : State) : DecoderSteps s (classify svc ws s) := by
  unfold classify
  dsimp only
  split
  · exact .refl
  split
  · exact .single (.style _)
  split
  · exact ((ReflTransGen.single (.ambiguous svc)).trans (raise_steps _ _).decoder).tail (.style _)
  · exact .refl

theorem c0Single_steps (b : Byte) (s : State) : SubstrateSteps s (c0Single b s) := by
  unfold c0Single
  split
  · exact emit_steps _ s
  · exact raise_steps _ s

theorem p16Complete_steps (s : State) : SubstrateSteps s (p16Complete s) :=
  steps_andThen (emit_steps _ s) (raise_steps _ _)

theorem c0Byte_steps (b : Byte) (s : State) : DecoderSteps s (c0Byte b s) := by
  refine (collect_steps b s).trans ?_
  unfold c0Byte
  dsimp only
  split
  · refine steps_andThen (SubstrateSteps.decoder ?_) (complete_steps _)
    split
    · exact p16Complete_steps _
    · exact raise_steps _ _
  · exact .refl

theorem ruleDefineWindow_steps (s : State) : DecoderSteps s (ruleDefineWindow s) :=
  steps_andThen (emit_steps _ s).decoder (classify_steps ..)

theorem c1Rule_steps (s : State) : DecoderSteps s (c1Rule s) := by
  unfold c1Rule
  dsimp only
  iterate 7 (split; · exact (emit_steps _ s).decoder)
  split; · exact (raise_steps _ s).decoder
  split; · exact (emit_steps _ s).decoder
  exact ruleDefineWindow_steps s

theorem c1Complete_steps (s : State) : DecoderSteps s (c1Complete s) := by
  refine steps_andThen ?_ (complete_steps _)
  split
  · exact (raise_steps _ s).decoder
  · exact c1Rule_steps s

theorem c1Entry_steps (b : Byte) (s : State) : DecoderSteps s (c1Entry b s) := by
  unfold c1Entry
  dsimp only
  split
  · exact (ReflTransGen.single (.registers ..)).trans (c1Complete_steps _)
  · exact .single (.registers ..)

theorem c1Byte_steps (b : Byte) (s : State) : DecoderSteps s (c1Byte b s) := by
  refine (collect_steps b s).trans ?_
  unfold c1Byte
  dsimp only
  split
  · exact c1Complete_steps _
  · exact .refl

theorem c2Complete_steps (s : State) : DecoderSteps s (c2Complete s) :=
  steps_andThen (steps_andThen (emit_steps _ s).decoder (raise_steps _ _).decoder) (complete_steps _)

theorem c3Complete_steps (s : State) : DecoderSteps s (c3Complete s) :=
  steps_andThen (steps_andThen (emit_steps _ s).decoder (raise_steps _ _).decoder) (complete_steps _)

theorem g2Char_steps (e : Byte) (s : State) : DecoderSteps s (g2Char e s) :=
  steps_andThen (emit_steps _ s).decoder (complete_steps _)

theorem g3Char_steps (e : Byte) (s : State) : DecoderSteps s (g3Char e s) :=
  steps_andThen (emit_steps _ s).decoder (complete_steps _)

theorem c3Abandon_steps (e : Byte) (s : State) : DecoderSteps s (c3Abandon e s) :=
  ((raise_steps _ s).decoder.tail (.cursor s.sbEnd (by simp))).trans (complete_steps _)

theorem extCodeByte_steps (e : Byte) (s : State) : DecoderSteps s (extCodeByte e s) := by
  unfold extCodeByte
  dsimp only
  split
  · split
    · exact (ReflTransGen.single (.registers ..)).trans (c2Complete_steps _)
    · exact .single (.registers ..)
  split; · exact g2Char_steps e s
  split; · exact .single (.registers ..)
  split; · exact c3Abandon_steps e s
  exact g3Char_steps e s

theorem extSkipByte_steps (s : State) : DecoderSteps s (extSkipByte s) := by
  refine (countDown_steps s).trans ?_
  unfold extSkipByte
  dsimp only
  split
  · split
    · exact c2Complete_steps _
    · exact c3Complete_steps _
  · exact .refl

theorem dataWaitByte_steps (b : Byte) (s : State) : DecoderSteps s (dataWaitByte b s) := by
  unfold dataWaitByte
  dsimp only
  split; · exact (c0Single_steps b s).decoder
  split; · exact .single (.registers ..)
  split; · exact .single (.registers ..)
  split; · exact .single (.registers ..)
  split; · exact (emit_steps _ s).decoder
  split; · exact c1Entry_steps b s
  exact (emit_steps _ s).decoder

theorem decodeByte_steps (b : Byte) (s : State) : DecoderSteps s (decodeByte b s) := by
  unfold decodeByte
  split
  · exact dataWaitByte_steps b s
  · exact c0Byte_steps b s
  · exact c1Byte_steps b s
  · unfold extByte
    split
    · exact extCodeByte_steps b s
    · exact extSkipByte_steps s

theorem consume_steps (b : Byte) (s : State) : DecoderSteps s (consume b s) :=
  (ReflTransGen.single (.cursor _ (by rw [cursor_val]; omega))).trans (decodeByte_steps b _)

theorem decodeLoop_steps (fuel : Nat) (s : State) : DecoderSteps s (decodeLoop fuel s) := by
  induction fuel generalizing s with
  | zero => exact .refl
  | succ fuel ih =>
    unfold decodeLoop
    split; · exact .refl
    split
    · exact (consume_steps _ s).trans (ih _)
    · exact .refl

theorem endOfBytes_steps (s : State) : DecoderSteps s (endOfBytes s) := by
  unfold endOfBytes
  split
  · exact .refl
  · exact truncated_steps s

theorem decodeBlock_steps (s : State) : DecoderSteps s (decodeBlock s) :=
  steps_andThen (decodeLoop_steps _ s) (endOfBytes_steps _)

theorem feed_steps (bytes : List Byte) (s : State) : DecoderSteps s (feed bytes s) := by
  induction bytes generalizing s with
  | nil => exact .refl
  | cons b rest ih =>
    unfold feed
    split
    · exact .refl
    · exact (consume_steps b s).trans (ih _)

theorem runCode_steps (bytes : List Byte) (s : State) : DecoderSteps s (runCode bytes s) := by
  refine steps_andThen (feed_steps _ s) ?_
  split
  · exact .refl
  · exact endOfBytes_steps _

/-! ### The parser -/

theorem openBlock_steps (s : State) : PacketSteps s (openBlock s) := by
  unfold openBlock
  dsimp only
  split
  · exact .single (.transients ..)
  · refine steps_andThen ((ReflTransGen.single (.transients ..)).trans (allocate_steps ..).packet) ?_
    exact (ReflTransGen.single (.transients ..)).trans (setTimestamp_steps ..).packet

theorem countCheck_steps (s : State) : SubstrateSteps s (countCheck s) := by
  unfold countCheck
  split
  · exact .refl
  · exact raiseFatal_steps _ s

theorem deliver_eq (s : State) : deliver s =
    (dispatch s.out s).2.andThen fun t =>
      (release t.out { t with ok := t.ok && (dispatch s.out s).1 }).andThen fun u => { u with out := none } := rfl

theorem deliver_steps (s : State) : PacketSteps s (deliver s) :=
  deliver_eq s ▸ steps_andThen (dispatch_steps s.out s).packet
    (steps_andThen ((ReflTransGen.single (.transients ..)).trans (release_steps ..).packet)
      (.single (.transients ..)))

theorem closeBlock_steps (s : State) : PacketSteps s (closeBlock s) := by
  refine steps_andThen (steps_andThen (countCheck_steps s).packet ?_) (.single (.transients ..))
  split
  · exact .refl
  · exact deliver_steps _

theorem processBlock_steps (s : State) : PacketSteps s (processBlock s) :=
  steps_andThen (steps_andThen (openBlock_steps s) (decodeBlock_steps _).packet) (closeBlock_steps _)

theorem stopParse_steps (s : State) : PacketSteps s (stopParse s) := .single (.transients ..)

theorem advance_steps (n : Nat) (s : State) : PacketSteps s (advance n s) := .single (.transients ..)

theorem takeBlock_steps (svc : BitVec 6) (size : BitVec 5) (s : State) : PacketSteps s (takeBlock svc size s) := by
  unfold takeBlock
  dsimp only
  split
  · exact ((raise_steps _ s).packet.tail (.transients ..)).trans (processBlock_steps _)
  · exact (ReflTransGen.single (.transients ..)).trans (processBlock_steps _)

theorem abandonPacket_steps (size : BitVec 5) (s : State) : PacketSteps s (abandonPacket size s) :=
  ((raise_steps _ s).packet.tail (.transients ..)).trans (stopParse_steps _)

theorem sbSvc0_steps (size : BitVec 5) (s : State) : PacketSteps s (sbSvc0 size s) :=
  (advance_steps 1 s).trans (abandonPacket_steps size _)

theorem sbStd_steps (svc : BitVec 3) (size : BitVec 5) (s : State) : PacketSteps s (sbStd svc size s) :=
  (advance_steps 1 s).trans (takeBlock_steps _ size _)

theorem sbExt_steps (size : BitVec 5) (svc : BitVec 6) (s : State) : PacketSteps s (sbExt size svc s) := by
  have hlog : PacketSteps s
      (if svc.toNat < 7 then raise (.extSvcIllegal svc) (advance 2 s) else advance 2 s) := by
    split
    · exact (advance_steps 2 s).trans (raise_steps _ _).packet
    · exact advance_steps 2 s
  unfold sbExt
  dsimp only
  split
  · exact hlog.trans (abandonPacket_steps size _)
  · exact hlog.trans (takeBlock_steps svc size _)

theorem parseStep_steps (s : State) : PacketSteps s (parseStep s) := by
  unfold parseStep
  dsimp only
  split; · exact stopParse_steps s
  split; · exact stopParse_steps s
  split; · exact sbExt_steps _ _ s
  split; · exact sbSvc0_steps _ s
  exact sbStd_steps _ _ s

theorem parseLoop_steps (fuel : Nat) (s : State) : PacketSteps s (parseLoop fuel s) := by
  induction fuel generalizing s with
  | zero => exact steps_andThen .refl (stopParse_steps s)
  | succ fuel ih =>
    unfold parseLoop
    split; · exact .refl
    split
    · exact (parseStep_steps s).trans (ih _)
    · exact .refl

theorem enterParse_steps (s : State) : PacketSteps s (enterParse s) := .single (.transients ..)

theorem parseBlocks_steps (s : State) : PacketSteps s (parseBlocks s) :=
  (enterParse_steps s).trans (parseLoop_steps _ _)

/-! ### The assembler -/

theorem zeroLength_steps (s : State) : PacketSteps s (zeroLength s) := by
  unfold zeroLength
  split
  · exact .single .zeroLength
  · exact .refl

theorem seqCheck_steps (seq : BitVec 2) (s : State) : PacketSteps s (seqCheck seq s) := by
  unfold seqCheck
  dsimp only
  split
  · exact (raise_steps _ s).packet.tail (.sequence seq)
  · exact .single (.sequence seq)

theorem lengthCheck_steps (code : BitVec 6) (s : State) : SubstrateSteps s (lengthCheck code s) := by
  unfold lengthCheck
  split
  · exact .refl
  · exact raise_steps _ s

theorem packetHeader_steps (seq : BitVec 2) (code : BitVec 6) (s : State) :
    PacketSteps s (packetHeader seq code s) :=
  ((ReflTransGen.single (.transients ..)).trans (seqCheck_steps seq _)).trans (lengthCheck_steps code _).packet

theorem endFlush_steps (s : State) : PacketSteps s (endFlush s) := .single .flushed

theorem flush_steps (s : State) : PacketSteps s (flush s) := by
  unfold flush
  dsimp only
  split
  · exact (zeroLength_steps s).trans (endFlush_steps _)
  · exact steps_andThen (((ReflTransGen.single (.transients ..)).trans (packetHeader_steps ..)).trans
      (parseBlocks_steps _)) (endFlush_steps _)

theorem appendPair_steps (b0 b1 : Byte) (s : State) : PacketSteps s (appendPair b0 b1 s) := .single (.append b0 b1)

theorem packetStart_steps (b0 b1 : Byte) (s : State) : PacketSteps s (packetStart b0 b1 s) :=
  steps_andThen (flush_steps s) (appendPair_steps b0 b1 _)

theorem packetData_steps (b0 b1 : Byte) (s : State) : PacketSteps s (packetData b0 b1 s) := by
  unfold packetData
  split
  · exact (raise_steps _ s).packet
  · exact appendPair_steps b0 b1 s

theorem construct_steps (hdr b0 b1 : Byte) (s : State) : PacketSteps s (construct hdr b0 b1 s) := by
  unfold construct
  split
  · split
    · exact packetStart_steps b0 b1 s
    · exact flush_steps s
  split
  · split
    · exact packetData_steps b0 b1 s
    · exact .refl
  · exact .refl

theorem nextConstruct_steps (s : State) : PacketSteps s (nextConstruct s) := .single (.transients ..)

theorem acceptLoop_steps (inbuf count : Nat) (s : State) : PacketSteps s (acceptLoop inbuf count s) := by
  induction count generalizing s with
  | zero => exact .refl
  | succ count ih => exact steps_andThen (steps_andThen (construct_steps ..) (nextConstruct_steps _)) (ih _)

/-! ### The upstream operations -/

/-- The state at the first construct of the input buffer in slot `i`, which holds `p` (R160). -/
def State.accepting (i : Nat) (p : Slot) (s : State) : State :=
  { s with
    curTs := p.ts, ok := true, cidx := 0
    phase := .accept, inProgress := .accept i p.numElements }

/-- What the lines of `Accept` before its loop can do: a fatal condition, or the call begins (R160). -/
theorem enterAccept_cases (inbuf : Handle) (s : State) :
    enterAccept inbuf s = raiseFatal .contract s ∨ ∃ i p, enterAccept inbuf s = s.accepting i p := by
  unfold enterAccept
  split; · exact .inl rfl
  split
  · exact .inl rfl
  · split
    · exact .inl rfl
    · exact .inr ⟨_, _, rfl⟩

/-- What `Accept` can do: a fatal condition of its checks, or its loop and its last lines (R160). -/
theorem acceptBuffer_cases (inbuf : Handle) {s : State} (hs : s.fatal = false) :
    acceptBuffer inbuf s = raiseFatal .contract s ∨
    ∃ i p, acceptBuffer inbuf s = (acceptLoop i (p.numElements / 3) (s.accepting i p)).andThen (endAccept i) := by
  unfold acceptBuffer
  obtain h | ⟨i, p, h⟩ := enterAccept_cases inbuf s
  · exact .inl (by rw [h, andThen_of_halted (raiseFatal_fatal ..)])
  · exact .inr ⟨i, p, by rw [h, andThen_of_live (show (s.accepting i p).fatal = false from hs)]; rfl⟩

theorem endAccept_evolves (inbuf : Nat) (s : State) : Evolves s (endAccept inbuf s) :=
  steps_andThen (release_steps _ s).evolves (.single (.operation ..))

theorem acceptBuffer_evolves (inbuf : Handle) {s : State} (hs : s.fatal = false) :
    Evolves s (acceptBuffer inbuf s) := by
  obtain h | ⟨i, p, h⟩ := acceptBuffer_cases inbuf hs <;> rw [h]
  · exact (raiseFatal_steps _ s).evolves
  · exact steps_andThen ((ReflTransGen.single (.operation ..)).trans (acceptLoop_steps ..).evolves)
      (endAccept_evolves i _)

theorem enterTerminate_evolves (s : State) : Evolves s (enterTerminate s) := by
  unfold enterTerminate
  split
  · exact (raiseFatal_steps _ s).evolves
  · exact .single (.operation ..)

theorem endTerminate_eq (s : State) : endTerminate s =
    (shutdown s).2.andThen fun t =>
      { report t with
        terminated := true, ret := some (.bool (t.ok && (shutdown s).1)), phase := .host, inProgress := .none } := rfl

theorem endTerminate_evolves (s : State) : Evolves s (endTerminate s) :=
  endTerminate_eq s ▸ steps_andThen (shutdown_steps s).evolves
    (((ReflTransGen.single .report).tail .terminated).tail (.operation ..))

theorem terminate_evolves (s : State) : Evolves s (terminate s) :=
  steps_andThen (steps_andThen (enterTerminate_evolves s) (flush_steps _).evolves) (endTerminate_evolves _)

theorem registerSink_evolves (sink : Nat) (consumes : BufType) (s : State) :
    Evolves s (registerSink sink consumes s) := by
  unfold registerSink
  split
  · exact (raise_steps _ s).evolves.tail (.operation ..)
  split
  · exact (raiseFatal_steps _ s).evolves
  · next h => exact (ReflTransGen.single (.register _ h)).tail (.operation ..)

/-- What an operation returned before is gone (log 18), and what it returns is noted. -/
theorem ret_evolves (r : Option RetVal) (s : State) : Evolves s { s with ret := r } := .single (.operation ..)

end Sys2Proof.Machine
end

section
/-! What every update keeps: flags and counters only grow, and the state stays sound (10_state.md R39). -/

namespace Sys2Proof.Machine

open Relation (ReflTransGen)

-- One proof at a time: in parallel they need more threads than the memory limit allows.
set_option Elab.async false

/-! ### The counters after an event -/

theorem Event.code_pred_lt (e : Event) : e.code - 1 < 17 := by cases e <;> simp [Event.code]

theorem Event.code_pred_eq_zero_iff {e : Event} : e.code - 1 = 0 ↔ e = .zeroLenPkt := by cases e <;> simp [Event.code]

/-- The counter of the event goes up by one and saturates; no other moves (R351). -/
theorem raise_cnt_get (e : Event) (s : State) (k : Fin 17) :
    (raise e s).cnt[k] = if e.code - 1 = k.val then bump s.cfg s.cnt[k] else s.cnt[k] := by
  have hcounter : counterOf s e.code = s.cnt[e.code - 1]'e.code_pred_lt := by
    simp [counterOf, Vector.getElem?_eq_getElem e.code_pred_lt]
  simp only [raise_cnt, Fin.getElem_fin, Vector.getElem_setIfInBounds, hcounter]
  split
  · next h => simp only [h]
  · rfl

/-- So is the number of its occurrences, which does not saturate. -/
theorem raise_occurred_get (e : Event) (s : State) (k : Fin 17) :
    (raise e s).occurred[k] = if e.code - 1 = k.val then s.occurred[k] + 1 else s.occurred[k] := by
  have hoccurrences : occurrencesOf s e.code = s.occurred[e.code - 1]'e.code_pred_lt := by
    simp [occurrencesOf, Vector.getElem?_eq_getElem e.code_pred_lt]
  simp only [raise_occurred, Fin.getElem_fin, Vector.getElem_setIfInBounds, hoccurrences]
  split
  · next h => simp only [h]
  · rfl

theorem le_bump (cfg : Params) (n : Nat) : n ≤ bump cfg n := by
  unfold bump
  split <;> omega

/-- A saturated count of `n`, bumped, is the saturated count of `n + 1` (R32). -/
theorem bump_min (cfg : Params) (n : Nat) : bump cfg (min n (counterMax cfg)) = min (n + 1) (counterMax cfg) := by
  unfold bump
  split <;> omega

/-! ### Flags and counters only grow -/

/-- From `s` to `t` no parameter and no number of pool slots changes, no flag is cleared, no counter falls, and
the streams of the channels only grow (10_state.md R37, R39 (e), (f), R45). -/
structure Grows (s t : State) : Prop where
  params : t.cfg = s.cfg
  poolLength : t.pool.length = s.pool.length
  firstFlushDone : s.firstFlushDone = true → t.firstFlushDone = true
  zeroLenLogged : s.zeroLenLogged = true → t.zeroLenLogged = true
  lastSeqValid : s.lastSeqValid = true → t.lastSeqValid = true
  ambiguous : ∀ k : Fin 63, s.ambiguous[k] = true → t.ambiguous[k] = true
  terminated : s.terminated = true → t.terminated = true
  cnt : ∀ k : Fin 17, s.cnt[k] ≤ t.cnt[k]
  occurred : ∀ k : Fin 17, s.occurred[k] ≤ t.occurred[k]
  diag : s.diag <+: t.diag
  sinkCalls : s.sinkCalls <+: t.sinkCalls

theorem Grows.refl (s : State) : Grows s s :=
  ⟨rfl, rfl, id, id, id, fun _ => id, id, fun _ => le_rfl, fun _ => le_rfl, List.prefix_rfl, List.prefix_rfl⟩

variable {s t u : State}

theorem Grows.trans (h : Grows s t) (g : Grows t u) : Grows s u where
  params := g.params.trans h.params
  poolLength := g.poolLength.trans h.poolLength
  firstFlushDone := g.firstFlushDone ∘ h.firstFlushDone
  zeroLenLogged := g.zeroLenLogged ∘ h.zeroLenLogged
  lastSeqValid := g.lastSeqValid ∘ h.lastSeqValid
  ambiguous k := g.ambiguous k ∘ h.ambiguous k
  terminated := g.terminated ∘ h.terminated
  cnt k := (h.cnt k).trans (g.cnt k)
  occurred k := (h.occurred k).trans (g.occurred k)
  diag := h.diag.trans g.diag
  sinkCalls := h.sinkCalls.trans g.sinkCalls

theorem raise_grows (e : Event) (s : State) : Grows s (raise e s) where
  __ := Grows.refl s
  cnt k := by
    rw [raise_cnt_get]
    split
    · exact le_bump ..
    · exact le_rfl
  occurred k := by
    rw [raise_occurred_get]
    split
    · exact Nat.le_succ _
    · exact le_rfl
  diag := List.prefix_append ..

theorem SubstrateUpdate.grows (h : SubstrateUpdate s t) : Grows s t := by
  cases h with
  | event e => exact raise_grows e s
  | fatal c => exact { Grows.refl s with diag := List.prefix_append .. }
  | slot i q p hq hp => exact { Grows.refl s with poolLength := List.length_set }
  | call c => exact { Grows.refl s with sinkCalls := List.prefix_append .. }
  | answer r n => exact { Grows.refl s with }

theorem setAmbiguous_grows (svc : BitVec 6) (s : State) : Grows s (setAmbiguous svc s) where
  __ := Grows.refl s
  ambiguous k hk := by
    simp only [setAmbiguous, Fin.getElem_fin, Vector.getElem_setIfInBounds]
    split
    · rfl
    · exact hk

theorem DecoderUpdate.grows (h : DecoderUpdate s t) : Grows s t := by
  cases h with
  | substrate h => exact h.grows
  | ambiguous svc => exact setAmbiguous_grows svc s
  | registers | style | cursor => exact { Grows.refl s with }

theorem PacketUpdate.grows (h : PacketUpdate s t) : Grows s t := by
  cases h with
  | decoder h => exact h.grows
  | zeroLength => exact { raise_grows .zeroLenPkt s with zeroLenLogged := fun _ => rfl }
  | sequence seq => exact { Grows.refl s with lastSeqValid := fun _ => rfl }
  | flushed => exact { Grows.refl s with firstFlushDone := fun _ => rfl }
  | transients | append => exact { Grows.refl s with }

theorem OperationUpdate.grows (h : OperationUpdate s t) : Grows s t := by
  cases h with
  | packet h => exact h.grows
  | report => exact { Grows.refl s with diag := List.prefix_append .. }
  | terminated => exact { Grows.refl s with terminated := fun _ => rfl }
  | operation | register => exact { Grows.refl s with }

theorem Evolves.grows (h : Evolves s t) : Grows s t := by
  induction h with
  | refl => exact .refl s
  | tail _ hu ih => exact ih.trans hu.grows

/-! ### The state stays sound -/

/-- The part of the invariant that a halted machine has too (10_state.md R39 (a), (c), (d), R22, R32). -/
structure State.Sound (s : State) : Prop where
  params : s.cfg.admissible = true
  slotsExist : 1 ≤ s.pool.length
  memory : s.pktBuf.wf = true
  evenLength : s.pktLen.val % 2 = 0
  slots : ∀ p ∈ s.pool, p.sound = true
  sinks : s.sinks.length ≤ s.cfg.maxSinks
  occurrences : ∀ k : Fin 17, s.cnt[k] = min s.occurred[k] (counterMax s.cfg)
  zeroLen : s.zeroLenLogged = decide (1 ≤ s.occurred[0])

theorem State.Inv.sound (h : s.Inv) : s.Sound :=
  ⟨h.params, h.slotsExist, h.memory, h.evenLength, h.slots, h.sinks, h.occurrences, h.zeroLen⟩

theorem State.Sound.counters (h : s.Sound) (k : Fin 17) : s.cnt[k] ≤ counterMax s.cfg :=
  h.occurrences k ▸ Nat.min_le_right ..

/-- The invariant is its lasting part and, unless the machine is halted, its part on the transients. -/
theorem State.Sound.inv (h : s.Sound) (idle : s.fatal = false → s.decoderIdle)
    (noOut : s.fatal = false → s.phase ≠ .block → s.out = none)
    (noCall : s.fatal = false → s.phase = .host → s.inProgress = .none) : s.Inv :=
  { h with counters := h.counters, idle, noOut, noCall }

theorem raise_occurrences (e : Event) (h : s.Sound) (k : Fin 17) :
    (raise e s).cnt[k] = min (raise e s).occurred[k] (counterMax (raise e s).cfg) := by
  rw [raise_cnt_get, raise_occurred_get, raise_cfg, h.occurrences k]
  split
  · exact bump_min ..
  · rfl

/-- An event but the zero-length one leaves the occurrences of that one (R167). -/
theorem raise_occurred_zero {e : Event} (he : e ≠ .zeroLenPkt) : (raise e s).occurred[0] = s.occurred[0] :=
  (raise_occurred_get e s 0).trans (if_neg fun h => he (Event.code_pred_eq_zero_iff.1 h))

theorem setSlot_sound {i : Nat} {p q : Slot} (h : s.Sound) (hq : s.pool[i]? = some q)
    (hp : q.sound = true → p.sound = true) : (setSlot i p s).Sound where
  __ := h
  slotsExist := by simpa using h.slotsExist
  slots r hr := by
    obtain hr | rfl := List.mem_or_eq_of_mem_set hr
    · exact h.slots r hr
    · exact hp (h.slots q (List.mem_of_getElem? hq))

theorem SubstrateUpdate.sound (h : SubstrateUpdate s t) (hs : s.Sound) : t.Sound := by
  cases h with
  | event e he =>
    exact { hs with
      occurrences := raise_occurrences e hs
      zeroLen := (raise_occurred_zero (s := s) he) ▸ hs.zeroLen }
  | slot i q p hq hp => exact setSlot_sound hs hq hp
  | fatal | call | answer => exact { hs with }

theorem DecoderUpdate.sound (h : DecoderUpdate s t) (hs : s.Sound) : t.Sound := by
  cases h with
  | substrate h => exact h.sound hs
  | registers | style | ambiguous | cursor => exact { hs with }

theorem appendPair_sound (b0 b1 : Byte) (hs : s.Sound) : (appendPair b0 b1 s).Sound where
  __ := hs
  memory := appendPair_wf b0 b1 hs.memory
  evenLength := by
    have := hs.evenLength
    rw [appendPair_pktLen, cursor_val]
    omega

theorem zeroLength_event_sound (hs : s.Sound) : { raise .zeroLenPkt s with zeroLenLogged := true }.Sound where
  __ := hs
  occurrences := raise_occurrences .zeroLenPkt hs
  zeroLen := by
    have hcount : (raise .zeroLenPkt s).occurred[0] = s.occurred[0] + 1 := raise_occurred_get .zeroLenPkt s 0
    change true = decide (1 ≤ (raise .zeroLenPkt s).occurred[0])
    rw [hcount]
    simp

theorem PacketUpdate.sound (h : PacketUpdate s t) (hs : s.Sound) : t.Sound := by
  cases h with
  | decoder h => exact h.sound hs
  | zeroLength => exact zeroLength_event_sound hs
  | append b0 b1 => exact appendPair_sound b0 b1 hs
  | flushed => exact { hs with evenLength := rfl }
  | transients | sequence => exact { hs with }

theorem OperationUpdate.sound (h : OperationUpdate s t) (hs : s.Sound) : t.Sound := by
  cases h with
  | packet h => exact h.sound hs
  | register e he =>
    have hbound := hs.sinks
    exact { hs with sinks := by simp only [List.length_append, List.length_singleton]; omega }
  | operation | report | terminated => exact { hs with }

theorem Evolves.sound (h : Evolves s t) (hs : s.Sound) : t.Sound := by
  induction h with
  | refl => exact hs
  | tail _ hu ih => exact hu.sound ih

theorem PacketSteps.sound (h : PacketSteps s t) (hs : s.Sound) : t.Sound := h.evolves.sound hs

/-! ### What an instruction does -/

theorem exec_allocate_eq_next {type : BufType} {capacity : Nat} :
    exec (.allocate type capacity) s = .next t ↔ s.fatal = false ∧
      t = { (allocate type capacity { s with ret := none }).2 with
        ret := (allocate type capacity { s with ret := none }).1.map .handle } :=
  operation_eq_next
    (f := fun t => { (allocate type capacity t).2 with ret := (allocate type capacity t).1.map .handle })

theorem exec_dispatch_eq_next {h : Handle} :
    exec (.dispatch h) s = .next t ↔ s.fatal = false ∧
      t = (dispatch h { s with ret := none }).2.andThen fun u =>
        { u with ret := some (.bool (dispatch h { s with ret := none }).1) } :=
  operation_eq_next (f := fun t => (dispatch h t).2.andThen fun u => { u with ret := some (.bool (dispatch h t).1) })

theorem exec_shutdown_eq_next :
    exec .shutdown s = .next t ↔ s.fatal = false ∧
      t = (shutdown { s with ret := none }).2.andThen fun u =>
        { u with ret := some (.bool (shutdown { s with ret := none }).1) } :=
  operation_eq_next (f := fun t => (shutdown t).2.andThen fun u => { u with ret := some (.bool (shutdown t).1) })

/-- An instruction but Reset answers a state that evolves from the one it is given, and only where the machine is
not halted (R370). -/
theorem exec_evolves {i : Instr} (hi : ∀ pool, i ≠ .reset pool) (hx : exec i s = .next t) : Evolves s t := by
  cases i with
  | reset pool => exact absurd rfl (hi pool)
  | ps b0 b1 =>
    obtain ⟨-, rfl⟩ := live_eq_next.1 hx
    exact (packetStart_steps b0 b1 s).evolves
  | psInvalid b0 b1 =>
    obtain ⟨-, rfl⟩ := live_eq_next.1 hx
    exact (flush_steps s).evolves
  | pd b0 b1 =>
    obtain ⟨-, rfl⟩ := live_eq_next.1 hx
    exact (packetData_steps b0 b1 s).evolves
  | pdInvalid | f1 | f2 =>
    obtain ⟨-, rfl⟩ := live_eq_next.1 hx
    exact .refl
  | pktHdr seq code =>
    obtain ⟨-, rfl⟩ := live_eq_next.1 hx
    exact (packetHeader_steps seq code s).evolves
  | sbNull svc =>
    obtain ⟨-, rfl⟩ := live_eq_next.1 hx
    exact (stopParse_steps s).evolves
  | sbSvc0 size =>
    obtain ⟨-, rfl⟩ := live_eq_next.1 hx
    exact (sbSvc0_steps size s).evolves
  | sbStd svc size =>
    obtain ⟨-, rfl⟩ := live_eq_next.1 hx
    exact (sbStd_steps svc size s).evolves
  | sbExt size svc =>
    obtain ⟨-, rfl⟩ := live_eq_next.1 hx
    exact (sbExt_steps size svc s).evolves
  | allocate type capacity =>
    obtain ⟨-, rfl⟩ := exec_allocate_eq_next.1 hx
    exact ((ret_evolves none s).trans (allocate_steps type capacity _).evolves).trans (ret_evolves _ _)
  | append h v =>
    obtain ⟨-, rfl⟩ := operation_eq_next.1 hx
    exact (ret_evolves none s).trans (append_steps h v _).evolves
  | setTimestamp h ts =>
    obtain ⟨-, rfl⟩ := operation_eq_next.1 hx
    exact (ret_evolves none s).trans (setTimestamp_steps h ts _).evolves
  | addReader h =>
    obtain ⟨-, rfl⟩ := operation_eq_next.1 hx
    exact (ret_evolves none s).trans (addReader_steps h _).evolves
  | release h =>
    obtain ⟨-, rfl⟩ := operation_eq_next.1 hx
    exact (ret_evolves none s).trans (release_steps h _).evolves
  | dispatch h =>
    obtain ⟨-, rfl⟩ := exec_dispatch_eq_next.1 hx
    exact steps_andThen ((ret_evolves none s).trans (dispatch_steps h _).evolves) (ret_evolves _ _)
  | shutdown =>
    obtain ⟨-, rfl⟩ := exec_shutdown_eq_next.1 hx
    exact steps_andThen ((ret_evolves none s).trans (shutdown_steps _).evolves) (ret_evolves _ _)
  | registerSink sink consumes =>
    obtain ⟨-, -, rfl⟩ := hostOperation_eq_next.1 hx
    exact (ret_evolves none s).trans (registerSink_evolves sink consumes _)
  | accept inbuf =>
    obtain ⟨hf, -, rfl⟩ := hostOperation_eq_next.1 hx
    exact (ret_evolves none s).trans (acceptBuffer_evolves inbuf hf)
  | terminate =>
    obtain ⟨-, -, rfl⟩ := hostOperation_eq_next.1 hx
    exact (ret_evolves none s).trans (terminate_evolves _)
  | flush =>
    obtain ⟨-, rfl⟩ := live_eq_next.1 hx
    exact (flush_steps s).evolves
  | parseBlocks =>
    obtain ⟨-, rfl⟩ := live_eq_next.1 hx
    exact (parseBlocks_steps s).evolves
  | processBlock =>
    obtain ⟨-, rfl⟩ := live_eq_next.1 hx
    exact (processBlock_steps s).evolves
  | _ =>
    rw [exec_of_level_code defaultTags rfl] at hx
    obtain ⟨-, rfl⟩ := live_eq_next.1 hx
    exact (runCode_steps _ s).packet.evolves

end Sys2Proof.Machine
end

section
/-! The statements of 10_state.md on what instructions keep. -/

namespace Sys2Proof.Machine

-- One proof at a time: in parallel they need more threads than the memory limit allows.
set_option Elab.async false

/-- Settles O13: every instruction but Reset is a chain of updates, and each update only grows (`Evolves.grows`). -/
theorem flagsAndCountersOnlyGrow : Obligations.FlagsAndCountersOnlyGrow := by
  intro i s t hi hx
  have h : Grows s t := (exec_evolves hi hx).grows
  exact ⟨h.firstFlushDone, h.zeroLenLogged, h.lastSeqValid, h.ambiguous, h.terminated, h.cnt, h.occurred, h.diag,
    h.sinkCalls⟩

/-- Settles O14: Reset maps over the pool, and every other instruction is a chain of updates (`Evolves.grows`). -/
theorem parametersAndPoolSizeAreFixed : Obligations.ParametersAndPoolSizeAreFixed := by
  intro i s t hx
  by_cases hi : ∃ pool, i = .reset pool
  · obtain ⟨pool, rfl⟩ := hi
    cases hx
    refine ⟨rfl, ?_⟩
    cases pool
    · rfl
    · exact List.length_map _
  · have h : Grows s t := (exec_evolves (fun pool hp => hi ⟨pool, hp⟩) hx).grows
    exact ⟨h.params, h.poolLength⟩

end Sys2Proof.Machine
end

section
/-! The halt and the state after reset (10_state.md R34, R44). -/

namespace Sys2Proof.Machine

-- One proof at a time: in parallel they need more threads than the memory limit allows.
set_option Elab.async false

/-- While the machine is halted every instruction but Reset is the fault `halted` (R370). -/
theorem exec_of_halted {i : Instr} {s : State} (hs : s.fatal = true) (hi : ∀ pool, i ≠ .reset pool) :
    exec i s = .fault .halted := by
  cases i with
  | reset pool => exact absurd rfl (hi pool)
  | ps | psInvalid | pd | pdInvalid | f1 | f2 | pktHdr | sbNull | sbSvc0 | sbStd | sbExt => exact live_of_halted hs
  | allocate | append | setTimestamp | addReader | release | dispatch | shutdown => exact if_pos hs
  | registerSink | accept | terminate => exact if_pos hs
  | flush | parseBlocks | processBlock => exact live_of_halted hs
  | _ =>
    rw [exec_of_level_code defaultTags rfl]
    exact live_of_halted hs

/-- Settles O7. -/
theorem haltedUntilReset : Obligations.HaltedUntilReset := by
  refine fun i s hs => ⟨exec_of_halted hs, ?reset⟩
  case reset =>
    rintro pool rfl
    exact ⟨resetMachine pool s, rfl, rfl⟩

/-- Settles O9, register by register; the pool and the registers that are vectors are copies of one value. -/
theorem resetStateValues : Obligations.ResetStateValues := by
  refine ⟨rfl, rfl, rfl, rfl, rfl, rfl, rfl, rfl, rfl, rfl, ?style, ?ambiguous, ?cnt, rfl, rfl, rfl, ?pool, rfl⟩
  case style | ambiguous | cnt => exact fun k => Vector.getElem_replicate k.isLt
  case pool =>
    intro p hp
    rw [List.eq_of_mem_replicate hp]
    rfl

theorem defaultParams_admissible : defaultParams.admissible = true := by decide +kernel

theorem reset_sound : State.reset.Sound where
  params := defaultParams_admissible
  slotsExist := by decide
  memory := reset_memory_wf
  evenLength := rfl
  slots p hp := by
    rw [List.eq_of_mem_replicate hp]
    rfl
  sinks := Nat.zero_le _
  occurrences k := by simp [State.reset]
  zeroLen := rfl

/-- Settles O10: after reset the machine is between operations, so no cursor clause applies. -/
theorem invariantsHoldAtReset : Obligations.InvariantsHoldAtReset :=
  ⟨reset_sound.inv (fun _ => ⟨rfl, rfl, rfl, rfl⟩) (fun _ _ => rfl) (fun _ _ => rfl),
    { header := nofun, parse := nofun, block := nofun }⟩

end Sys2Proof.Machine
end

section
/-! The decoder between two bytes, and what a chain of updates leaves of the transients (10_state.md R24, R26 to R29,
R39 (b)). -/

namespace Sys2Proof.Machine

open Relation (ReflTransGen)

-- One proof at a time: in parallel they need more threads than the memory limit allows.
set_option Elab.async false

variable {s t : State} {n : Nat} {b : Byte}

/-! ### What the layers leave unchanged -/

/-- The state without what the substrate, the events and the channels own. -/
def State.control (s : State) : State :=
  { s with
    pool := [], cnt := Vector.replicate 17 0, occurred := Vector.replicate 17 0, diag := [], sinkCalls := []
    replies := [], sinkTick := 0, fatal := false, fatalCause := .contract }

/-- The state without that, the decoder's and style registers, and `rd`. -/
def State.frame (s : State) : State :=
  { s.control with
    mode := .dataWait, remaining := 0, cmd := 0, extPhase := .code, acc := Vector.replicate 6 0, accN := 0
    style := Vector.replicate 63 .unset, ambiguous := Vector.replicate 63 false, rd := 0 }

theorem SubstrateUpdate.control (h : SubstrateUpdate s t) : t.control = s.control := by
  cases h <;> rfl

theorem SubstrateSteps.control (h : SubstrateSteps s t) : t.control = s.control := by
  induction h with
  | refl => rfl
  | tail _ hu ih => exact hu.control.trans ih

theorem DecoderUpdate.frame (h : DecoderUpdate s t) : t.frame = s.frame := by
  cases h with
  | substrate h =>
    unfold State.frame
    rw [h.control]
  | registers | style | ambiguous | cursor => rfl

theorem DecoderSteps.frame (h : DecoderSteps s t) : t.frame = s.frame := by
  induction h with
  | refl => rfl
  | tail _ hu ih => exact hu.frame.trans ih

theorem DecoderSteps.phase (h : DecoderSteps s t) : t.phase = s.phase := (congrArg State.phase h.frame :)

theorem PacketSteps.inProgress (h : PacketSteps s t) : t.inProgress = s.inProgress := by
  induction h with
  | refl => rfl
  | tail _ hu ih =>
    refine Eq.trans ?_ ih
    cases hu with
    | decoder h => exact (congrArg State.inProgress h.frame :)
    | transients | zeroLength | sequence | append | flushed => rfl

/-- No update but Reset clears `fatal` (R370). -/
theorem SubstrateSteps.live (h : SubstrateSteps s t) (ht : t.fatal = false) : s.fatal = false := by
  induction h with
  | refl => exact ht
  | tail _ hu ih =>
    refine ih ?_
    cases hu with
    | fatal => cases ht
    | event | slot | call | answer => exact ht

theorem SubstrateSteps.decoderIdle (h : SubstrateSteps s t) (hs : s.decoderIdle) : t.decoderIdle := by
  obtain ⟨hmode, hremaining, haccN, hphase⟩ := hs
  exact ⟨(congrArg State.mode h.control).trans hmode, (congrArg State.remaining h.control).trans hremaining,
    (congrArg State.accN h.control).trans haccN, (congrArg State.extPhase h.control).trans hphase⟩

/-- How many bytes of the block are ahead. -/
def State.ahead (s : State) : Nat := s.sbEnd.val - s.rd.val

theorem DecoderUpdate.ahead_le (h : DecoderUpdate s t) : t.ahead ≤ s.ahead := by
  cases h with
  | substrate h => exact le_of_eq (congrArg State.ahead h.control :)
  | cursor r hr => exact hr
  | registers | style | ambiguous => exact le_rfl

theorem DecoderSteps.ahead_le (h : DecoderSteps s t) : t.ahead ≤ s.ahead := by
  induction h with
  | refl => exact le_rfl
  | tail _ hu ih => exact hu.ahead_le.trans ih

/-! ### Unless halted -/

/-- The result of a line that is not halted is that line's effect on a state that is not. -/
theorem andThen_live {f : State → State} (h : (s.andThen f).fatal = false) :
    s.fatal = false ∧ s.andThen f = f s := by
  obtain ⟨hs, heq⟩ | hlive := andThen_cases s f
  · rw [heq, hs] at h
    cases h
  · exact hlive

/-- What is asked of a state unless the machine is halted there. -/
def State.UnlessHalted (P : State → Prop) (s : State) : Prop := s.fatal = false → P s

theorem unlessHalted_andThen {P : State → Prop} {f : State → State}
    (h : s.fatal = false → (f s).UnlessHalted P) : (s.andThen f).UnlessHalted P := by
  intro hf
  obtain ⟨hs, heq⟩ := andThen_live hf
  rw [heq] at hf ⊢
  exact h hs hf

/-- The decoder is at a code boundary, unless the machine is halted. -/
abbrev State.Idles (s : State) : Prop := s.UnlessHalted State.decoderIdle

theorem complete_idles (s : State) : (complete s).Idles := fun _ => ⟨rfl, rfl, rfl, rfl⟩

theorem andThen_complete_idles (s : State) : (s.andThen complete).Idles :=
  unlessHalted_andThen fun _ => complete_idles s

theorem SubstrateSteps.idles (h : SubstrateSteps s t) (hs : s.Idles) : t.Idles :=
  fun ht => h.decoderIdle (hs (h.live ht))

/-! ### How many bytes a code still needs -/

/-- Unless the machine is halted, the decoder needs `n` more bytes to complete a code: none at a code boundary, else
`remaining` (10_state.md R27). -/
def State.Awaits (n : Nat) (s : State) : Prop :=
  s.fatal = false →
    (n = 0 ∧ s.decoderIdle) ∨
    (n ≠ 0 ∧ s.mode ≠ .dataWait ∧ (s.mode = .extendedPending → s.extPhase = .skip) ∧ s.remaining.val = n)

theorem State.awaits_zero_iff : s.Awaits 0 ↔ s.Idles := by simp [State.Awaits, State.UnlessHalted]

theorem State.Awaits.of_eq {m : Nat} (h : s.Awaits m) (hm : m = n) : s.Awaits n := hm ▸ h

/-- The decoder's registers between two bytes: some number of bytes is needed, or the extended code byte is next. -/
def State.DecoderSound (s : State) : Prop :=
  (∃ n, s.Awaits n) ∨ (s.mode = .extendedPending ∧ s.extPhase = .code)

theorem State.Idles.decoderSound (h : s.Idles) : s.DecoderSound := .inl ⟨0, State.awaits_zero_iff.2 h⟩

/-- Where a byte leaves `remaining` at 0 the code is complete, else it is pending (R226, R270, R271, R311). -/
theorem awaits_ite {p u : State} (hmode : p.mode ≠ .dataWait)
    (hskip : p.mode = .extendedPending → p.extPhase = .skip) (hu : u.Idles) :
    (if p.remaining = 0 then u else p).Awaits p.remaining.val := by
  split
  · next h => exact fun hf => .inl ⟨by rw [h]; rfl, hu hf⟩
  · next h => exact fun _ => .inr ⟨fun h0 => h (Fin.ext h0), hmode, hskip, rfl⟩

theorem payloadCount_pred (r : PayloadCount) : (payloadCount (r.val - 1)).val = r.val - 1 :=
  payloadCount_val_of_le (by omega)

theorem c0Byte_awaits (b : Byte) (hm : s.mode = .c0Pending) : (c0Byte b s).Awaits (s.remaining.val - 1) :=
  (awaits_ite (p := collect b s) (by simp [hm]) (by simp [hm]) (andThen_complete_idles _)).of_eq
    (payloadCount_pred s.remaining)

theorem c1Byte_awaits (b : Byte) (hm : s.mode = .c1Pending) : (c1Byte b s).Awaits (s.remaining.val - 1) :=
  (awaits_ite (p := collect b s) (by simp [hm]) (by simp [hm]) (andThen_complete_idles _)).of_eq
    (payloadCount_pred s.remaining)

theorem extSkipByte_awaits (hm : s.mode = .extendedPending) (hp : s.extPhase = .skip) :
    (extSkipByte s).Awaits (s.remaining.val - 1) := by
  refine (awaits_ite (p := countDown s) (by simp [hm]) (by simp [hp]) ?_).of_eq (payloadCount_pred s.remaining)
  split
  · exact andThen_complete_idles _
  · exact andThen_complete_idles _

/-- A byte of a pending code brings the decoder one byte nearer to its end (R226, R271, R311). -/
theorem decodeByte_awaits_pred (b : Byte) (hm : s.mode ≠ .dataWait)
    (hp : s.mode = .extendedPending → s.extPhase = .skip) : (decodeByte b s).Awaits (s.remaining.val - 1) := by
  unfold decodeByte
  split
  · next h => exact absurd h hm
  · next h => exact c0Byte_awaits b h
  · next h => exact c1Byte_awaits b h
  · next h =>
    simp only [extByte, hp h]
    exact extSkipByte_awaits h (hp h)

/-! ### The lengths of the codes -/

variable {c : C1Table} {e : Byte}

theorem totalLen_c0Single (h : b.toNat ≤ 0x0F) : totalLen c b = 1 := if_pos h

theorem totalLen_c0Two (h : 0x10 ≤ b.toNat ∧ b.toNat ≤ 0x17) : totalLen c b = 2 := by
  unfold totalLen
  split_ifs <;> omega

theorem totalLen_c0Three (h : 0x18 ≤ b.toNat ∧ b.toNat ≤ 0x1F) : totalLen c b = 3 := by
  unfold totalLen
  split_ifs <;> omega

theorem totalLen_g0 (h : 0x20 ≤ b.toNat ∧ b.toNat ≤ 0x7F) : totalLen c b = 1 := by
  unfold totalLen
  split_ifs <;> omega

theorem totalLen_c1 (h : 0x80 ≤ b.toNat ∧ b.toNat ≤ 0x9F) : totalLen c b = c.lenOf b := by
  unfold totalLen
  split_ifs <;> omega

theorem totalLen_g1 (h : 0xA0 ≤ b.toNat) : totalLen c b = 1 := by
  unfold totalLen
  split_ifs <;> omega

theorem totalLenExtended_c2 (h : e.toNat ≤ 0x1F) : totalLenExtended e = 2 + c2Extra e := if_pos h

theorem totalLenExtended_c3 (h : 0x80 ≤ e.toNat ∧ e.toNat ≤ 0x8F) : totalLenExtended e = 2 + c3Extra e := by
  unfold totalLenExtended
  split_ifs <;> omega

theorem totalLenExtended_char (h : (0x20 ≤ e.toNat ∧ e.toNat ≤ 0x7F) ∨ 0x90 ≤ e.toNat) :
    totalLenExtended e = 2 := by
  unfold totalLenExtended
  split_ifs <;> omega

theorem c2Extra_le (e : Byte) : c2Extra e ≤ 6 := by
  unfold c2Extra
  split_ifs <;> omega

theorem c3Extra_bounds (e : Byte) : c3Extra e ≠ 0 ∧ c3Extra e ≤ 6 := by
  unfold c3Extra
  split_ifs <;> omega

/-! ### The first bytes of a code -/

theorem c1Entry_awaits (b : Byte) (s : State) : (c1Entry b s).Awaits (min (s.cfg.c1.lenOf b - 1) 6) :=
  awaits_ite (p := { s with
      cmd := b, accN := 0, remaining := payloadCount (s.cfg.c1.lenOf b - 1), mode := .c1Pending })
    (by simp) (by simp) (andThen_complete_idles _)

/-- After the first byte the decoder needs the rest of the code, whose length that byte gives (R98, R223). -/
theorem dataWaitByte_awaits (hs : s.decoderIdle) (hb : b ≠ 0x10) :
    (dataWaitByte b s).Awaits (min (totalLen s.cfg.c1 b - 1) 6) := by
  have hidle {u : State} (hu : SubstrateSteps s u) : u.Awaits 0 :=
    State.awaits_zero_iff.2 (hu.idles fun _ => hs)
  unfold dataWaitByte
  dsimp only
  split
  · next h => rw [totalLen_c0Single h]; exact hidle (c0Single_steps b s)
  split
  · bv_omega
  split
  · rw [totalLen_c0Two (by omega)]
    exact fun _ => .inr ⟨by decide, by simp [enterPending], by simp [enterPending], rfl⟩
  split
  · rw [totalLen_c0Three (by omega)]
    exact fun _ => .inr ⟨by decide, by simp [enterPending], by simp [enterPending], rfl⟩
  split
  · rw [totalLen_g0 (by omega)]; exact hidle (emit_steps _ s)
  split
  · rw [totalLen_c1 (by omega)]; exact c1Entry_awaits b s
  · rw [totalLen_g1 (by omega)]; exact hidle (emit_steps _ s)

/-- After EXT1 the decoder needs the extended code byte (R223). -/
theorem dataWaitByte_ext1 (s : State) :
    dataWaitByte 0x10 s = { s with mode := .extendedPending, cmd := 0x10, extPhase := .code, remaining := 1 } := rfl

/-- After the extended code byte it needs the extra bytes of the code (R99, R311). -/
theorem extCodeByte_awaits (e : Byte) (hm : s.mode = .extendedPending) :
    (extCodeByte e s).Awaits (totalLenExtended e - 2) := by
  unfold extCodeByte
  dsimp only
  split
  · next h =>
    rw [totalLenExtended_c2 h, Nat.add_sub_cancel_left]
    exact (awaits_ite (p := { s with cmd := e, remaining := payloadCount (c2Extra e), extPhase := .skip })
      (by simp [hm]) (by simp) (andThen_complete_idles _)).of_eq (payloadCount_val_of_le (c2Extra_le e))
  split
  · rw [totalLenExtended_char (by omega)]
    exact State.awaits_zero_iff.2 (andThen_complete_idles _)
  split
  · obtain ⟨hpos, hle⟩ := c3Extra_bounds e
    rw [totalLenExtended_c3 (by omega), Nat.add_sub_cancel_left]
    exact fun _ => .inr ⟨hpos, by simp [hm], by simp, payloadCount_val_of_le hle⟩
  split
  · rw [totalLenExtended_char (by omega)]
    exact State.awaits_zero_iff.2 (complete_idles _)
  · rw [totalLenExtended_char (by omega)]
    exact State.awaits_zero_iff.2 (andThen_complete_idles _)

/-! ### The bytes of a block -/

theorem decodeByte_decoderSound (b : Byte) (hf : s.fatal = false) (hs : s.DecoderSound) :
    (decodeByte b s).DecoderSound := by
  obtain ⟨n, hn⟩ | ⟨hm, hp⟩ := hs
  · obtain ⟨-, hidle⟩ | ⟨-, hm, hp, -⟩ := hn hf
    · rw [decodeByte, hidle.1]
      by_cases hb : b = 0x10
      · subst hb
        exact .inr ⟨rfl, rfl⟩
      · exact .inl ⟨_, dataWaitByte_awaits hidle hb⟩
    · exact .inl ⟨_, decodeByte_awaits_pred b hm hp⟩
  · simp only [decodeByte, hm, extByte, hp]
    exact .inl ⟨_, extCodeByte_awaits b hm⟩

theorem consume_decoderSound (b : Byte) (hf : s.fatal = false) (hs : s.DecoderSound) : (consume b s).DecoderSound :=
  decodeByte_decoderSound b (s := { s with rd := cursor (s.rd.val + 1) }) hf hs

theorem consume_ahead (b : Byte) (s : State) : (consume b s).ahead ≤ s.ahead - 1 := by
  have hmove : ({ s with rd := cursor (s.rd.val + 1) } : State).ahead ≤ s.ahead - 1 := by
    have := s.sbEnd.isLt
    simp only [State.ahead, cursor_val]
    omega
  exact (decodeByte_steps b _).ahead_le.trans hmove

theorem feed_decoderSound (bytes : List Byte) (hs : s.DecoderSound) : (feed bytes s).DecoderSound := by
  induction bytes generalizing s with
  | nil => exact hs
  | cons b rest ih =>
    unfold feed
    split
    · exact hs
    · next hf => exact ih (consume_decoderSound b (by simpa using hf) hs)

/-- Every byte fed brings the cursor nearer to the end of the block, unless the machine halts. -/
theorem feed_ahead (bytes : List Byte) (s : State) (hf : (feed bytes s).fatal = false) :
    (feed bytes s).ahead ≤ s.ahead - bytes.length := by
  induction bytes generalizing s with
  | nil => exact le_rfl
  | cons b rest ih =>
    cases hs : s.fatal with
    | true =>
      rw [feed_of_halted hs, hs] at hf
      cases hf
    | false =>
      rw [feed_cons_of_live hs] at hf ⊢
      have hconsume := consume_ahead b s
      have hrest := ih _ hf
      rw [List.length_cons]
      omega

theorem decodeLoop_decoderSound (fuel : Nat) (hs : s.DecoderSound) : (decodeLoop fuel s).DecoderSound := by
  induction fuel generalizing s with
  | zero => exact hs
  | succ fuel ih =>
    unfold decodeLoop
    split
    · exact hs
    split
    · next hf _ => exact ih (consume_decoderSound _ (by simpa using hf) hs)
    · exact hs

/-- At the end of a block the decoder is at a code boundary, or it is put there (R221, R224). -/
theorem endOfBytes_idles (hs : s.DecoderSound) : (endOfBytes s).Idles := by
  unfold endOfBytes
  split
  · next hm =>
    intro hf
    obtain ⟨n, hn⟩ | ⟨hext, -⟩ := hs
    · obtain ⟨-, hidle⟩ | ⟨-, hpending, -⟩ := hn hf
      · exact hidle
      · exact absurd hm hpending
    · rw [hext] at hm
      cases hm
  · exact complete_idles _

theorem decodeBlock_idles (hs : s.decoderIdle) : (decodeBlock s).Idles :=
  unlessHalted_andThen fun _ => endOfBytes_idles (decodeLoop_decoderSound _ (State.Idles.decoderSound fun _ => hs))

/-! ### The bytes of one code -/

/-- The bytes are those of one code: as many as its first bytes say (30_encoding.md R98, R99). -/
inductive CodeBytes (c : C1Table) : List Byte → Prop
  | plain {b : Byte} {rest : List Byte} (hb : b ≠ 0x10) (hlen : rest.length + 1 = totalLen c b) :
    CodeBytes c (b :: rest)
  | extended {e : Byte} {rest : List Byte} (hlen : rest.length + 2 = totalLenExtended e) :
    CodeBytes c (0x10 :: e :: rest)

/-- Admissible tables give a code that is not reserved the length of its format (45_c1_commands.md R273). -/
theorem C1Table.lenOf_of_not_reserved (hc : c.admissible = true) (h : 0x80 ≤ b.toNat ∧ b.toNat ≤ 0x9F)
    (hr : c.isReserved b = false) : c.lenOf b = c1FormatLen.getD (b.toNat - 0x80) 0 := by
  simp only [C1Table.admissible, Bool.and_eq_true, List.all_eq_true, List.mem_range, Bool.or_eq_true,
    beq_iff_eq, decide_eq_true_eq] at hc
  obtain ⟨⟨⟨⟨⟨⟨⟨hlen, -⟩, -⟩, -⟩, -⟩, -⟩, -⟩, hformat⟩ := hc
  have hk : b.toNat - 0x80 < 32 := by omega
  have hcode : BitVec.ofNat 8 (0x80 + (b.toNat - 0x80)) = b := by bv_omega
  obtain hres | hfmt := hformat _ hk
  · rw [hcode, hr] at hres
    cases hres
  · rw [← hfmt]
    simp [C1Table.lenOf, List.getD_eq_getElem?_getD, List.getElem?_eq_getElem (hlen ▸ hk)]

/-- A C1 command has the length that `C1_LEN` gives its code (R104, R273). -/
theorem encode_codeBytes_c1Command {i : Instr} (t : Tags) (hc : c.admissible = true) (hb : i.c1Code = some b)
    (hr : c.isReserved b = false) : CodeBytes c (encode t i) := by
  cases i <;> cases hb <;>
    exact .plain (by decide)
      (by rw [totalLen_c1 (by decide), C1Table.lenOf_of_not_reserved hc (by decide) hr]; simp [c1FormatLen])

/-- The encoding of a well-formed code is the bytes of one code. -/
theorem encode_codeBytes {i : Instr} (t : Tags) (hc : c.admissible = true) (hw : i.wf c = true)
    (hl : i.level = .code) : CodeBytes c (encode t i) := by
  have hrange : i.inRange = true := (Bool.and_eq_true_iff.1 hw).1
  cases i with
  | nul | etx | bs | ff | cr | hcr => exact .plain (by decide) rfl
  | c0Unk1 b =>
    have hle : b.toNat ≤ 0x0F := by
      simp only [Instr.inRange, Bool.and_eq_true, Byte.within_iff] at hrange
      omega
    exact .plain (by bv_omega) (totalLen_c0Single hle).symm
  | ext1C20 e | ext1C21 e | ext1C22 e | ext1C23 e =>
    have he := Byte.within_iff.1 hrange
    refine .extended ?_
    rw [totalLenExtended_c2 (by omega), c2Extra]
    simp only [List.length_cons, List.length_nil]
    split_ifs <;> omega
  | ext1C34 e | ext1C35 e =>
    have he := Byte.within_iff.1 hrange
    refine .extended ?_
    rw [totalLenExtended_c3 (by omega), c3Extra]
    simp only [List.length_cons, List.length_nil]
    split_ifs <;> omega
  | ext1G2 e | ext1C3Var e | ext1G3 e =>
    have he := Byte.within_iff.1 hrange
    exact .extended (totalLenExtended_char (by omega)).symm
  | c0Rsv2 b p1 =>
    have hb := Byte.within_iff.1 hrange
    exact .plain (by bv_omega) (totalLen_c0Two (by omega)).symm
  | p16 p1 p2 => exact .plain (by decide) rfl
  | c0Rsv3 b p1 p2 =>
    have hb := Byte.within_iff.1 hrange
    exact .plain (by bv_omega) (totalLen_c0Three (by omega)).symm
  | g0 b =>
    have hb := Byte.within_iff.1 hrange
    exact .plain (by bv_omega) (totalLen_g0 hb).symm
  | g1 b =>
    have hb := Byte.within_iff.1 hrange
    exact .plain (by bv_omega) (totalLen_g1 hb.1).symm
  | c1Rsv r =>
    simp only [Instr.wf, Instr.inRange, Bool.and_eq_true, decide_eq_true_eq, Byte.within_iff] at hw
    obtain ⟨hcode, -, hlen⟩ := hw
    exact .plain (by bv_omega) (hlen.trans (totalLen_c1 hcode).symm)
  | cw0 | cw1 | cw2 | cw3 | cw4 | cw5 | cw6 | cw7 | clw | dsw | hdw | tgw | dlw | dly | dlc | rst | spa
  | spc | spl | swa | df0 | df1 | df2 | df3 | df4 | df5 | df6 | df7 =>
    exact encode_codeBytes_c1Command t hc rfl (Instr.c1Code_not_reserved rfl hw)
  | _ => cases hl

/-- As many bytes as the decoder needs bring it to a code boundary. -/
theorem feed_awaits (bytes : List Byte) (hs : s.Awaits bytes.length) : (feed bytes s).Idles := by
  induction bytes generalizing s with
  | nil => exact State.awaits_zero_iff.1 hs
  | cons b rest ih =>
    cases hf : s.fatal with
    | true =>
      rw [feed_of_halted hf]
      exact fun hlive => absurd hlive (by simp [hf])
    | false =>
      obtain ⟨h0, -⟩ | ⟨-, hm, hp, hr⟩ := hs hf
      · cases h0
      · rw [feed_cons_of_live hf]
        have hpred := decodeByte_awaits_pred b (s := { s with rd := cursor (s.rd.val + 1) }) hm hp
        rw [hr] at hpred
        exact ih hpred

theorem consume_dataWait (b : Byte) (hm : s.mode = .dataWait) :
    consume b s = dataWaitByte b { s with rd := cursor (s.rd.val + 1) } := by
  simp only [consume, decodeByte, hm]

theorem consume_extCode (e : Byte) (hm : s.mode = .extendedPending) (hp : s.extPhase = .code) :
    consume e s = extCodeByte e { s with rd := cursor (s.rd.val + 1) } := by
  simp only [consume, decodeByte, hm, extByte, hp]

/-- The bytes of one code take the decoder from a code boundary to the next. -/
theorem feed_codeBytes_idles {bytes : List Byte} (hc : s.cfg.c1.admissible = true) (hs : s.decoderIdle)
    (hf : s.fatal = false) (hbytes : CodeBytes s.cfg.c1 bytes) : (feed bytes s).Idles := by
  cases hbytes with
  | @plain b rest hb hlen =>
    rw [feed_cons_of_live hf, consume_dataWait b hs.1]
    have hfirst := dataWaitByte_awaits (s := { s with rd := cursor (s.rd.val + 1) }) hs hb
    have hmax : totalLen s.cfg.c1 b ≤ 7 := by
      obtain ⟨-, hle⟩ := C1Table.lenOf_bounds hc b
      unfold totalLen
      split_ifs <;> omega
    refine feed_awaits rest (hfirst.of_eq ?_)
    change min (totalLen s.cfg.c1 b - 1) 6 = rest.length
    omega
  | @extended e rest hlen =>
    rw [feed_cons_of_live hf, consume_dataWait 0x10 hs.1, dataWaitByte_ext1, feed_cons_of_live (by exact hf),
      consume_extCode e rfl rfl]
    exact feed_awaits rest ((extCodeByte_awaits e rfl).of_eq (by omega))

/-- The bytes of one code, as far as the block holds them, leave the decoder at a code boundary (R221, R224). -/
theorem runCode_idles {bytes : List Byte} (hc : s.cfg.c1.admissible = true) (hs : s.decoderIdle)
    (hf : s.fatal = false) (hbytes : CodeBytes s.cfg.c1 bytes) : (runCode bytes s).Idles := by
  change ((feed (bytes.take s.ahead) s).andThen _).Idles
  refine unlessHalted_andThen fun hlive => ?_
  obtain hfits | hcut := le_or_gt bytes.length s.ahead
  · rw [List.take_of_length_le hfits]
    have hfeed := feed_codeBytes_idles hc hs hf hbytes
    split
    · exact hfeed
    · exact endOfBytes_idles hfeed.decoderSound
  · have hahead := feed_ahead _ s hlive
    rw [List.length_take_of_le hcut.le, State.ahead] at hahead
    rw [if_neg (by omega)]
    exact endOfBytes_idles (feed_decoderSound _ (State.Idles.decoderSound fun _ => hs))

end Sys2Proof.Machine
end

section
/-! Every step keeps the invariant of 10_state.md R39. The lasting part is `Evolves.sound`; here is what each loop
leaves of the transients. -/

namespace Sys2Proof.Machine

-- One proof at a time: in parallel they need more threads than the memory limit allows.
set_option Elab.async false

variable {s t : State} {i : Instr}

/-! ### The parser leaves the decoder idle and no output buffer -/

/-- Unless the machine is halted, the decoder is at a code boundary and there is no output buffer (R39 (b)). -/
abbrev State.Quiet (s : State) : Prop := s.UnlessHalted fun u => u.decoderIdle ∧ u.out = none

/-- Unless the machine is halted, it is inside an operation (log 13). -/
abbrev State.InLoop (s : State) : Prop := s.UnlessHalted fun u => u.phase ≠ .host

theorem SubstrateSteps.quiet (h : SubstrateSteps s t) (hs : s.Quiet) : t.Quiet := by
  intro ht
  obtain ⟨hidle, hout⟩ := hs (h.live ht)
  exact ⟨h.decoderIdle hidle, (congrArg State.out h.control :).trans hout⟩

theorem openBlock_idle (hs : s.decoderIdle) : (openBlock s).decoderIdle := by
  unfold openBlock
  dsimp only
  split
  · exact hs
  · exact andThen_induct (P := State.decoderIdle) ((allocate_steps ..).decoderIdle hs)
      fun _ ht => (setTimestamp_steps ..).decoderIdle ht

/-- After a delivery there is no output buffer (R200). -/
theorem deliver_quiet (hs : s.decoderIdle) : (deliver s).Quiet := by
  rw [deliver_eq]
  refine unlessHalted_andThen fun _ => unlessHalted_andThen fun _ _ => ⟨?_, rfl⟩
  exact (release_steps ..).decoderIdle ((dispatch_steps ..).decoderIdle hs)

/-- At the end of `ProcessBlock` the block loop goes on, and there is no output buffer (R198). -/
theorem closeBlock_quiet (hs : s.Idles) : (closeBlock s).Quiet := by
  refine unlessHalted_andThen fun hlive => ?_
  suffices h : ((countCheck s).andThen fun t => if t.out = none then t else deliver t).Quiet from fun hf => h hf
  refine unlessHalted_andThen fun hcheck => ?_
  have hidle : (countCheck s).decoderIdle := (countCheck_steps s).idles hs hcheck
  split
  · next hout => exact fun _ => ⟨hidle, hout⟩
  · exact deliver_quiet hidle

theorem closeBlock_inLoop (s : State) : (closeBlock s).InLoop := by
  intro hf
  obtain ⟨-, heq⟩ := andThen_live hf
  simp [closeBlock, heq]

theorem processBlock_quiet (hs : s.decoderIdle) : (processBlock s).Quiet :=
  unlessHalted_andThen fun _ => closeBlock_quiet (unlessHalted_andThen fun _ => decodeBlock_idles (openBlock_idle hs))

theorem processBlock_inLoop (s : State) : (processBlock s).InLoop := by
  intro hf
  obtain ⟨-, heq⟩ := andThen_live hf
  rw [processBlock, heq] at hf ⊢
  exact closeBlock_inLoop _ hf

theorem takeBlock_quiet (svc : BitVec 6) (size : BitVec 5) (hs : s.decoderIdle) : (takeBlock svc size s).Quiet := by
  unfold takeBlock
  dsimp only
  split
  · exact processBlock_quiet hs
  · exact processBlock_quiet hs

theorem abandonPacket_quiet (size : BitVec 5) (hs : s.decoderIdle) (hout : s.out = none) :
    (abandonPacket size s).Quiet := fun _ => ⟨hs, hout⟩

theorem sbExt_quiet (size : BitVec 5) (svc : BitVec 6) (hs : s.decoderIdle) (hout : s.out = none) :
    (sbExt size svc s).Quiet := by
  unfold sbExt
  dsimp only
  have hlog : SubstrateSteps (advance 2 s)
      (if svc.toNat < 7 then raise (.extSvcIllegal svc) (advance 2 s) else advance 2 s) := by
    split
    · exact raise_steps _ _
    · exact .refl
  have hidle := hlog.decoderIdle (s := advance 2 s) hs
  split
  · exact abandonPacket_quiet size hidle ((congrArg State.out hlog.control :).trans hout)
  · exact takeBlock_quiet svc size hidle

theorem sbExt_inLoop (size : BitVec 5) (svc : BitVec 6) (s : State) : (sbExt size svc s).InLoop := by
  unfold sbExt
  dsimp only
  split
  · exact fun _ => nofun
  · exact processBlock_inLoop _

/-- An iteration of the block loop, from a state that is not halted (R190). -/
theorem parseStep_quiet (hs : s.decoderIdle) (hout : s.out = none) : (parseStep s).Quiet := by
  unfold parseStep
  dsimp only
  split; · exact fun _ => ⟨hs, hout⟩
  split; · exact fun _ => ⟨hs, hout⟩
  split; · exact sbExt_quiet _ _ hs hout
  split; · exact abandonPacket_quiet (s := advance 1 s) _ hs hout
  exact takeBlock_quiet (s := advance 1 s) _ _ hs

theorem parseStep_inLoop (s : State) : (parseStep s).InLoop := by
  unfold parseStep
  dsimp only
  split; · exact fun _ => nofun
  split; · exact fun _ => nofun
  split; · exact sbExt_inLoop _ _ s
  split; · exact fun _ => nofun
  exact processBlock_inLoop _

theorem parseLoop_quiet (fuel : Nat) (hs : s.Quiet) : (parseLoop fuel s).Quiet := by
  induction fuel generalizing s with
  | zero => exact unlessHalted_andThen fun _ => hs
  | succ fuel ih =>
    unfold parseLoop
    split; · exact hs
    split
    · next hf _ =>
      obtain ⟨hidle, hout⟩ := hs (by simpa using hf)
      exact ih (parseStep_quiet hidle hout)
    · exact hs

/-! ### The assembler -/

theorem zeroLength_quiet (hs : s.Quiet) : (zeroLength s).Quiet := by
  unfold zeroLength
  split
  · exact hs
  · exact hs

theorem seqCheck_quiet (seq : BitVec 2) (hs : s.Quiet) : (seqCheck seq s).Quiet := by
  unfold seqCheck
  dsimp only
  split
  · exact fun hf => (raise_steps (.seqDiscontinuity (nextSeq s.lastSeq) seq) s).quiet hs hf
  · exact fun hf => hs hf

theorem packetHeader_quiet (seq : BitVec 2) (code : BitVec 6) (hs : s.Quiet) : (packetHeader seq code s).Quiet :=
  (lengthCheck_steps code _).quiet (seqCheck_quiet seq (s := { s with curSeq := seq }) hs)

theorem flush_quiet (hs : s.Quiet) : (flush s).Quiet := by
  unfold flush
  dsimp only
  split
  · exact zeroLength_quiet hs
  · exact unlessHalted_andThen fun _ => parseLoop_quiet _ (packetHeader_quiet _ _ hs)

/-- A Flush goes back to the loop of the upstream call that is being executed (R166, log 13). -/
theorem flush_phase (hf : (flush s).fatal = false) : (flush s).phase = phaseAfterFlush s := by
  have hafter {u : State} (h : PacketSteps s u) : phaseAfterFlush u = phaseAfterFlush s := by
    unfold phaseAfterFlush
    rw [h.inProgress]
  unfold flush at hf ⊢
  dsimp only at hf ⊢
  split at hf
  · next h => rw [if_pos h]; exact hafter (zeroLength_steps s)
  · next h =>
    obtain ⟨-, heq⟩ := andThen_live hf
    rw [if_neg h, heq]
    refine hafter (((Relation.ReflTransGen.single (.transients ..)).trans (packetHeader_steps ..)).trans
      (parseBlocks_steps _))

theorem construct_quiet (hdr b0 b1 : Byte) (hs : s.Quiet) : (construct hdr b0 b1 s).Quiet := by
  unfold construct packetStart packetStartInvalid packetData
  split
  · split
    · exact unlessHalted_andThen fun _ => flush_quiet hs
    · exact flush_quiet hs
  split
  · split
    · split
      · exact hs
      · exact hs
    · exact hs
  · exact hs

theorem acceptLoop_quiet (inbuf count : Nat) (hs : s.Quiet) : (acceptLoop inbuf count s).Quiet := by
  induction count generalizing s with
  | zero => exact hs
  | succ count ih => exact unlessHalted_andThen fun _ => ih (unlessHalted_andThen fun _ => construct_quiet _ _ _ hs)

/-! ### The upstream operations -/

/-- The machine is between operations, with no upstream call (log 13), the decoder idle and no output buffer. -/
abbrev State.Rests (s : State) : Prop :=
  s.UnlessHalted fun u => u.decoderIdle ∧ u.out = none ∧ u.phase = .host ∧ u.inProgress = .none

theorem State.Sound.inv_of_rests (h : s.Sound) (hs : s.Rests) : s.Inv := by
  refine h.inv (fun hf => ?_) (fun hf _ => ?_) (fun hf _ => ?_) <;> obtain ⟨hidle, hout, -, hcall⟩ := hs hf
  · exact hidle
  · exact hout
  · exact hcall

theorem State.Sound.inv_of_inLoop (h : s.Sound) (hs : s.Quiet) (hloop : s.InLoop) : s.Inv :=
  h.inv (fun hf => (hs hf).1) (fun hf _ => (hs hf).2) (fun hf hhost => absurd hhost (hloop hf))

theorem State.Inv.quiet (h : s.Inv) (hp : s.phase ≠ .block) : s.Quiet := fun hf => ⟨h.idle hf, h.noOut hf hp⟩

theorem State.Inv.rests (h : s.Inv) (hp : s.phase = .host) : s.Rests :=
  fun hf => ⟨h.idle hf, h.noOut hf (by simp [hp]), hp, h.noCall hf hp⟩

theorem raiseFatal_rests (c : FatalCause) (s : State) : (raiseFatal c s).Rests := nofun

theorem SubstrateSteps.rests (h : SubstrateSteps s t) (hs : s.Rests) : t.Rests := by
  intro ht
  obtain ⟨hidle, hout, hphase, hcall⟩ := hs (h.live ht)
  exact ⟨h.decoderIdle hidle, (congrArg State.out h.control :).trans hout,
    (congrArg State.phase h.control :).trans hphase, (congrArg State.inProgress h.control :).trans hcall⟩

theorem endAccept_rests (inbuf : Nat) (hs : s.Quiet) : (endAccept inbuf s).Rests := by
  refine unlessHalted_andThen fun hlive => fun hf => ?_
  obtain ⟨hidle, hout⟩ := (release_steps (some inbuf) s).quiet hs hlive
  exact ⟨hidle, hout, rfl, rfl⟩

theorem acceptBuffer_rests (inbuf : Handle) (hf : s.fatal = false) (hs : s.Rests) :
    (acceptBuffer inbuf s).Rests := by
  obtain ⟨hidle, hout, -⟩ := hs hf
  obtain h | ⟨i, p, h⟩ := acceptBuffer_cases inbuf hf <;> rw [h]
  · exact raiseFatal_rests _ s
  · exact unlessHalted_andThen fun _ => endAccept_rests i (acceptLoop_quiet _ _ fun _ => ⟨hidle, hout⟩)

theorem endTerminate_rests (hs : s.Quiet) : (endTerminate s).Rests := by
  rw [endTerminate_eq]
  refine unlessHalted_andThen fun hlive => fun hf => ?_
  obtain ⟨hidle, hout⟩ := (shutdown_steps s).quiet hs hlive
  exact ⟨hidle, hout, rfl, rfl⟩

theorem terminate_rests (hs : s.Quiet) : (terminate s).Rests := by
  refine unlessHalted_andThen fun _ => endTerminate_rests (unlessHalted_andThen fun _ => flush_quiet ?_)
  unfold enterTerminate
  split
  · exact nofun
  · exact hs

theorem registerSink_rests (sink : Nat) (consumes : BufType) (hs : s.Rests) :
    (registerSink sink consumes s).Rests := by
  unfold registerSink
  split; · exact hs
  split
  · exact raiseFatal_rests _ s
  · exact hs

theorem resetMachine_sound (pool : Bool) (hs : s.Sound) : (resetMachine pool s).Sound where
  __ := hs
  slotsExist := by
    have := hs.slotsExist
    cases pool <;> simpa [resetMachine] using this
  evenLength := rfl
  slots p hp := by
    cases pool with
    | false => exact hs.slots p hp
    | true =>
      obtain ⟨q, hq, rfl⟩ := List.mem_map.1 hp
      obtain ⟨hroom, -⟩ := Slot.sound_iff.1 (hs.slots q hq)
      exact Slot.sound_iff.2 ⟨hroom, by simp⟩
  sinks := Nat.zero_le _
  occurrences k := by simp [resetMachine]
  zeroLen := rfl

theorem resetMachine_rests (pool : Bool) (s : State) : (resetMachine pool s).Rests :=
  fun _ => ⟨⟨rfl, rfl, rfl, rfl⟩, rfl, rfl, rfl⟩

/-- An operation of a channel, between operations, leaves the machine between operations. -/
theorem exec_channelOp_rests (hop : isChannelOp i = true) (hs : s.Rests) (hx : exec i s = .next t) : t.Rests := by
  cases i with
  | allocate type capacity =>
    obtain ⟨-, rfl⟩ := exec_allocate_eq_next.1 hx
    exact (allocate_steps type capacity _).rests (s := { s with ret := none }) hs
  | append h v =>
    obtain ⟨-, rfl⟩ := operation_eq_next.1 hx
    exact (append_steps h v _).rests hs
  | setTimestamp h ts =>
    obtain ⟨-, rfl⟩ := operation_eq_next.1 hx
    exact (setTimestamp_steps h ts _).rests hs
  | addReader h =>
    obtain ⟨-, rfl⟩ := operation_eq_next.1 hx
    exact (addReader_steps h _).rests hs
  | release h =>
    obtain ⟨-, rfl⟩ := operation_eq_next.1 hx
    exact (release_steps h _).rests hs
  | dispatch h =>
    obtain ⟨-, rfl⟩ := exec_dispatch_eq_next.1 hx
    exact unlessHalted_andThen fun _ => (dispatch_steps h _).rests (s := { s with ret := none }) hs
  | shutdown =>
    obtain ⟨-, rfl⟩ := exec_shutdown_eq_next.1 hx
    exact unlessHalted_andThen fun _ => (shutdown_steps _).rests (s := { s with ret := none }) hs
  | registerSink sink consumes =>
    obtain ⟨-, -, rfl⟩ := hostOperation_eq_next.1 hx
    exact registerSink_rests sink consumes hs
  | accept inbuf =>
    obtain ⟨hf, -, rfl⟩ := hostOperation_eq_next.1 hx
    exact acceptBuffer_rests inbuf hf hs
  | terminate =>
    obtain ⟨hf, -, rfl⟩ := hostOperation_eq_next.1 hx
    exact terminate_rests fun hf => ⟨(hs hf).1, (hs hf).2.1⟩
  | reset pool =>
    cases hx
    exact resetMachine_rests pool s
  | _ => cases hop

theorem exec_sound (hs : s.Sound) (hx : exec i s = .next t) : t.Sound := by
  by_cases hi : ∃ pool, i = .reset pool
  · obtain ⟨pool, rfl⟩ := hi
    cases hx
    exact resetMachine_sound pool hs
  · exact (exec_evolves (fun pool hp => hi ⟨pool, hp⟩) hx).sound hs

/-- The operations of the agents: between operations, and Reset on a halted machine too. -/
theorem stepHost_inv (hs : s.Inv) (hp : s.fatal = true ∨ s.phase = .host) (hx : stepHost s = .next t) : t.Inv := by
  unfold stepHost at hx
  split at hx
  · split at hx <;> cases hx
  · next i rest hreq =>
    split at hx
    · next hop =>
      have hrests : ({ s with requests := rest } : State).Rests := by
        obtain hf | hp := hp
        · exact fun hlive => absurd hf (by simp [show s.fatal = false from hlive])
        · exact hs.rests hp
      have hsound : ({ s with requests := rest } : State).Sound := { hs.sound with }
      exact (exec_sound hsound hx).inv_of_rests (exec_channelOp_rests hop hrests hx)
    · cases hx

end Sys2Proof.Machine
end

section
/-! The steps inside an operation, loop by loop, and the statement. -/

namespace Sys2Proof.Machine

-- One proof at a time: in parallel they need more threads than the memory limit allows.
set_option Elab.async false

variable {s t : State} {i : Instr}

/-! ### The loop of `Accept` -/

/-- The instruction of a construct does what its header selects (30_encoding.md R92). -/
theorem exec_constructInstr (hdr b0 b1 : Byte) (hf : s.fatal = false) :
    exec (constructInstr s.cfg.tags hdr b0 b1) s = .next (construct hdr b0 b1 s) := by
  unfold constructInstr construct
  split
  · split <;> exact live_of_live hf
  split
  · split <;> exact live_of_live hf
  split <;> exact live_of_live hf

/-- A construct executed by the loop of `Accept` leaves the machine in that loop (R160, log 13). -/
theorem construct_inLoop (hdr b0 b1 : Byte) (hp : s.phase = .accept) {h n : Nat} (hc : s.inProgress = .accept h n) :
    (construct hdr b0 b1 s).InLoop := by
  have hflush : (flush s).InLoop := by
    intro hlive
    rw [flush_phase hlive, phaseAfterFlush, hc]
    nofun
  have hstay : s.InLoop := fun _ => by simp [hp]
  unfold construct packetStart packetStartInvalid packetData
  split
  · split
    · exact unlessHalted_andThen fun _ => hflush
    · exact hflush
  split
  · split
    · split
      · exact hstay
      · exact hstay
    · exact hstay
  · exact hstay

/-- What a step does in the loop of `Accept`: the construct at the cursor, or the last lines (R160). -/
theorem stepInside_accept {h n : Nat} (hf : s.fatal = false) (hp : s.phase = .accept)
    (hc : s.inProgress = .accept h n) :
    stepInside s =
      .next (if 3 * s.cidx + 3 ≤ n then (constructAt h s).andThen nextConstruct else endAccept h s) := by
  split
  · next hn =>
    simp only [stepInside, fetch_accept hp hc hn, decode, decodeConstruct, decoded, exec_constructInstr _ _ _ hf,
      afterInstr, hp, constructAt]
  · next hn => simp only [stepInside, fetch, fetchBytes, endOfLoop, hp, hc, if_neg hn]

theorem stepInside_accept_inv (hs : s.Inv) (hf : s.fatal = false) (hp : s.phase = .accept)
    (hx : stepInside s = .next t) : t.Inv := by
  have hquiet : s.Quiet := hs.quiet (by simp [hp])
  cases hc : s.inProgress with
  | accept h n =>
    rw [stepInside_accept hf hp hc] at hx
    cases hx
    split
    · refine State.Sound.inv_of_inLoop ?_ (unlessHalted_andThen fun _ => construct_quiet _ _ _ hquiet) ?_
      · exact PacketSteps.sound (steps_andThen (construct_steps ..) (nextConstruct_steps _)) hs.sound
      · exact unlessHalted_andThen fun _ => construct_inLoop _ _ _ hp hc
    · exact ((endAccept_evolves h s).sound hs.sound).inv_of_rests (endAccept_rests h hquiet)
  | none | terminate =>
    simp only [stepInside, fetch, fetchBytes, endOfLoop, hp, hc] at hx
    cases hx
    refine State.Sound.inv_of_rests { hs.sound with } fun _ => ?_
    exact ⟨(hquiet hf).1, (hquiet hf).2, rfl, rfl⟩

/-! ### The packet header and the block loop -/

theorem stepInside_header (hf : s.fatal = false) (hp : s.phase = .header) :
    ∃ seq code, stepInside s = .next ((packetHeader seq code s).andThen enterParse) := by
  refine ⟨field (pktByte s 0) 6 2, field (pktByte s 0) 0 6, ?_⟩
  simp only [stepInside, fetch_header hp, decode, decodePacketHeader, decoded, exec, execPktHdr, live_of_live hf,
    afterInstr, hp]
  rfl

theorem stepInside_header_inv (hs : s.Inv) (hf : s.fatal = false) (hp : s.phase = .header)
    (hx : stepInside s = .next t) : t.Inv := by
  obtain ⟨seq, code, heq⟩ := stepInside_header hf hp
  rw [heq] at hx
  cases hx
  have hquiet := packetHeader_quiet seq code (hs.quiet (by simp [hp]))
  refine State.Sound.inv_of_inLoop ?_ (unlessHalted_andThen fun _ => hquiet) ?_
  · exact PacketSteps.sound (steps_andThen (packetHeader_steps seq code s) (enterParse_steps _)) hs.sound
  · exact unlessHalted_andThen fun _ _ => nofun

/-- A step of the block loop is one iteration of it (R190). -/
theorem stepInside_parse (hf : s.fatal = false) (hp : s.phase = .parse) : stepInside s = .next (parseStep s) := by
  obtain hn | hn := Nat.lt_or_ge (s.pktLen.val - s.rd.val) 2
  · simp only [stepInside, fetch, fetchBytes, endOfLoop, parseStep, hp, if_pos hn]
  · have hafter : afterInstr s.phase = id := by rw [hp]; rfl
    simp only [stepInside, fetch_parse hp hn, decode, decodeBlockHeader, parseStep, if_neg (Nat.not_lt.2 hn), hafter]
    split_ifs <;> simp only [decoded, exec, execSbNull, execSbExt, execSbSvc0, execSbStd, live_of_live hf, id]

theorem stepInside_parse_inv (hs : s.Inv) (hf : s.fatal = false) (hp : s.phase = .parse)
    (hx : stepInside s = .next t) : t.Inv := by
  obtain ⟨hidle, hout⟩ := hs.quiet (by simp [hp]) hf
  rw [stepInside_parse hf hp] at hx
  cases hx
  exact ((parseStep_steps s).evolves.sound hs.sound).inv_of_inLoop (parseStep_quiet hidle hout) (parseStep_inLoop s)

/-! ### The end of a Flush -/

theorem afterFlush_evolves (s : State) : Evolves s (afterFlush s) := by
  unfold afterFlush
  split
  · exact .refl
  · exact endTerminate_evolves s
  · refine PacketSteps.evolves ?_
    split
    · exact (appendPair_steps ..).trans (nextConstruct_steps _)
    · exact nextConstruct_steps s

theorem stepInside_parsed (hp : s.phase = .parsed) : stepInside s = .next (afterFlush (endFlush s)) := by
  simp only [stepInside, fetch, fetchBytes, endOfLoop, hp]

theorem stepInside_parsed_inv (hs : s.Inv) (hf : s.fatal = false) (hp : s.phase = .parsed)
    (hx : stepInside s = .next t) : t.Inv := by
  have hquiet : s.Quiet := hs.quiet (by simp [hp])
  obtain ⟨hidle, hout⟩ := hquiet hf
  rw [stepInside_parsed hp] at hx
  cases hx
  have hsound := (afterFlush_evolves _).sound (PacketSteps.sound (endFlush_steps s) hs.sound)
  cases hc : s.inProgress with
  | none =>
    refine hsound.inv_of_rests ?_
    simp only [afterFlush, endFlush_inProgress, hc]
    exact fun _ => ⟨hidle, hout, by simp [phaseAfterFlush, hc], hc⟩
  | terminate =>
    refine hsound.inv_of_rests ?_
    simp only [afterFlush, endFlush_inProgress, hc]
    exact endTerminate_rests hquiet
  | accept h n =>
    refine hsound.inv_of_inLoop ?_ ?_ <;> simp only [afterFlush, endFlush_inProgress, hc] <;> split
    · exact hquiet
    · exact hquiet
    · exact fun _ => by simp [phaseAfterFlush, hc]
    · exact fun _ => by simp [phaseAfterFlush, hc]

/-! ### The codes of a block -/

/-- Inside a block a step runs the bytes of one code, or the last lines of `ProcessBlock` (R198, R221). -/
theorem stepInside_block (hf : s.fatal = false) (hp : s.phase = .block) (hc : s.cfg.c1.admissible = true) :
    (∃ bytes, CodeBytes s.cfg.c1 bytes ∧ stepInside s = .next (runCode bytes s)) ∨
    stepInside s = .next ((endOfBytes s).andThen closeBlock) := by
  obtain hn | hn := Nat.lt_or_ge s.rd.val s.sbEnd.val
  · obtain ⟨i, rest, hd, hw, hl, -⟩ := decodeCode_reads s.cfg.tags hc
      (bytes := pktBytes s s.rd.val s.sbEnd.val ++ List.replicate maxCodeLen 0) (by simp)
    refine .inl ⟨encode s.cfg.tags i, encode_codeBytes s.cfg.tags hc hw hl, ?_⟩
    simp only [stepInside, fetch_block hp hn, decode, hd, decoded, exec_of_level_code s.cfg.tags hl, code,
      live_of_live hf, afterInstr, hp]
  · refine .inr ?_
    simp only [stepInside, fetch, fetchBytes, endOfLoop, hp, if_neg (Nat.not_lt.2 hn)]

theorem Params.c1_admissible {p : Params} (h : p.admissible = true) : p.c1.admissible = true := by
  simp only [Params.admissible, Bool.and_eq_true] at h
  obtain ⟨⟨⟨⟨⟨⟨⟨⟨⟨⟨⟨-, -⟩, -⟩, hc1⟩, -⟩, -⟩, -⟩, -⟩, -⟩, -⟩, -⟩, -⟩ := h
  exact hc1

theorem stepInside_block_inv (hs : s.Inv) (hf : s.fatal = false) (hp : s.phase = .block)
    (hx : stepInside s = .next t) : t.Inv := by
  have hc := Params.c1_admissible hs.params
  obtain ⟨bytes, hbytes, heq⟩ | heq := stepInside_block hf hp hc <;> rw [heq] at hx <;> cases hx
  · have hphase : (runCode bytes s).phase = .block := (runCode_steps bytes s).phase.trans hp
    exact ((runCode_steps bytes s).packet.evolves.sound hs.sound).inv (runCode_idles hc (hs.idle hf) hf hbytes)
      (fun _ h => absurd hphase h) (fun _ h => by simp [hphase] at h)
  · have hidle := endOfBytes_idles (State.Idles.decoderSound hs.idle)
    refine State.Sound.inv_of_inLoop ?_ (unlessHalted_andThen fun _ => closeBlock_quiet hidle) ?_
    · exact PacketSteps.sound (steps_andThen (endOfBytes_steps s).packet (closeBlock_steps _)) hs.sound
    · exact unlessHalted_andThen fun _ => closeBlock_inLoop _

/-- Settles O11: between operations by `stepHost_inv`, inside one by the lemma of its loop. -/
theorem stepKeepsInvariant : Obligations.StepKeepsInvariant := by
  intro s t hs hx
  by_cases hhost : s.fatal = true ∨ s.phase = .host
  · exact stepHost_inv hs hhost (step_eq_stepHost hhost ▸ hx)
  · obtain ⟨hlive, hinside⟩ := not_or.1 hhost
    have hf : s.fatal = false := by simpa using hlive
    rw [step_eq_stepInside hf hinside] at hx
    cases hp : s.phase with
    | host => exact absurd hp hinside
    | accept => exact stepInside_accept_inv hs hf hp hx
    | header => exact stepInside_header_inv hs hf hp hx
    | parse => exact stepInside_parse_inv hs hf hp hx
    | parsed => exact stepInside_parsed_inv hs hf hp hx
    | block => exact stepInside_block_inv hs hf hp hx

end Sys2Proof.Machine
end

section
/-! The cursors of a packet and of its blocks: which operations keep them, and how the decoder moves `rd` inside a block
(10_state.md R24, R25, 20_memory.md R66). -/

namespace Sys2Proof.Machine

-- One proof at a time: in parallel they need more threads than the memory limit allows.
set_option Elab.async false

variable {s t : State} {n : Nat} {b e : Byte}

/-! ### The registers that say where the machine stands -/

/-- The read cursor, the end and the service of the block, and the length of the packet. -/
structure Cursors where
  rd : Cursor
  sbEnd : Cursor
  pktLen : Cursor
  sbSvc : BitVec 6

/-- Those registers of a state. -/
def State.cursors (s : State) : Cursors := ⟨s.rd, s.sbEnd, s.pktLen, s.sbSvc⟩

/-- `rd` is inside a block of a service other than 0, with at least `n` bytes of it ahead, and the block is inside
the packet (10_state.md R24, R25, 42_service_block_parser.md R195 (c)). -/
def Cursors.InBlock (n : Nat) (c : Cursors) : Prop :=
  c.rd.val + n ≤ c.sbEnd.val ∧ c.sbEnd.val ≤ c.pktLen.val ∧ c.sbSvc ≠ 0

theorem Cursors.InBlock.mono {m : Nat} {c : Cursors} (h : c.InBlock n) (hm : m ≤ n) : c.InBlock m := by
  obtain ⟨hrd, hend, hsvc⟩ := h
  exact ⟨by omega, hend, hsvc⟩

/-- Inside a block there are as many bytes ahead as `rd` is before `sb_end`. -/
theorem Cursors.InBlock.ahead (h : s.cursors.InBlock 0) : s.cursors.InBlock s.ahead := by
  obtain ⟨hrd, hend, hsvc⟩ := h
  exact ⟨(Nat.add_sub_cancel' hrd).le, hend, hsvc⟩

theorem Cursors.InBlock.rd_le_pktLen (h : s.cursors.InBlock 0) : s.rd.val ≤ s.pktLen.val := by
  obtain ⟨hrd, hend, -⟩ := h
  exact hrd.trans hend

theorem Cursors.InBlock.move (h : s.cursors.InBlock (n + 1)) :
    ({ s with rd := cursor (s.rd.val + 1) } : State).cursors.InBlock n := by
  obtain ⟨hrd, hend, hsvc⟩ := h
  refine ⟨?_, hend, hsvc⟩
  change min (s.rd.val + 1) 128 + n ≤ s.sbEnd.val
  change s.rd.val + (n + 1) ≤ s.sbEnd.val at hrd
  omega

/-! ### Which operations keep them -/

theorem SubstrateSteps.cursors (h : SubstrateSteps s t) : t.cursors = s.cursors :=
  (congrArg State.cursors h.control :)

/-- The next line of a rule, whether or not it runs, keeps the cursors where its effect keeps them. -/
theorem andThen_cursors {f : State → State} (h : t.cursors = s.cursors) (hf : ∀ u, (f u).cursors = u.cursors) :
    (t.andThen f).cursors = s.cursors :=
  andThen_induct (P := fun u => u.cursors = s.cursors) h fun _ ht => (hf t).trans ht

theorem emit_cursors (body : Body) (s : State) : (emit body s).cursors = s.cursors := (emit_steps body s).cursors

theorem complete_cursors (s : State) : (complete s).cursors = s.cursors := rfl

theorem classify_cursors (svc : BitVec 6) (ws : BitVec 3) (s : State) :
    (classify svc ws s).cursors = s.cursors := by
  unfold classify
  dsimp only
  split; · rfl
  split; · rfl
  split <;> rfl

theorem c0Byte_cursors (b : Byte) (s : State) : (c0Byte b s).cursors = s.cursors := by
  unfold c0Byte
  dsimp only
  split
  · refine andThen_cursors ?_ complete_cursors
    split
    · exact (p16Complete_steps _).cursors
    · rfl
  · rfl

theorem c1Rule_cursors (s : State) : (c1Rule s).cursors = s.cursors := by
  unfold c1Rule
  dsimp only
  iterate 7 (split; · exact emit_cursors _ s)
  split; · rfl
  split; · exact emit_cursors _ s
  exact andThen_cursors (emit_cursors _ s) (classify_cursors _ _)

theorem c1Complete_cursors (s : State) : (c1Complete s).cursors = s.cursors := by
  refine andThen_cursors ?_ complete_cursors
  split
  · rfl
  · exact c1Rule_cursors s

theorem c1Entry_cursors (b : Byte) (s : State) : (c1Entry b s).cursors = s.cursors := by
  unfold c1Entry
  dsimp only
  split
  · exact c1Complete_cursors _
  · rfl

theorem c1Byte_cursors (b : Byte) (s : State) : (c1Byte b s).cursors = s.cursors := by
  unfold c1Byte
  dsimp only
  split
  · exact c1Complete_cursors _
  · rfl

theorem c2Complete_cursors (s : State) : (c2Complete s).cursors = s.cursors :=
  andThen_cursors (andThen_cursors (emit_cursors _ s) fun _ => rfl) complete_cursors

theorem c3Complete_cursors (s : State) : (c3Complete s).cursors = s.cursors :=
  andThen_cursors (andThen_cursors (emit_cursors _ s) fun _ => rfl) complete_cursors

theorem extSkipByte_cursors (s : State) : (extSkipByte s).cursors = s.cursors := by
  unfold extSkipByte
  dsimp only
  split
  · split
    · exact c2Complete_cursors _
    · exact c3Complete_cursors _
  · rfl

theorem dataWaitByte_cursors (b : Byte) (s : State) : (dataWaitByte b s).cursors = s.cursors := by
  unfold dataWaitByte
  dsimp only
  split; · exact (c0Single_steps b s).cursors
  split; · rfl
  split; · rfl
  split; · rfl
  split; · exact emit_cursors _ s
  split; · exact c1Entry_cursors b s
  exact emit_cursors _ s

/-- Of the extended codes only those of R320 move `rd`, which skip the rest of the block. -/
theorem extCodeByte_cursors (s : State) (he : ¬ (0x90 ≤ e.toNat ∧ e.toNat ≤ 0x9F)) :
    (extCodeByte e s).cursors = s.cursors := by
  unfold extCodeByte
  dsimp only
  split
  · split
    · exact c2Complete_cursors _
    · rfl
  split; · exact andThen_cursors (emit_cursors _ s) complete_cursors
  split; · rfl
  split; · omega
  exact andThen_cursors (emit_cursors _ s) complete_cursors

theorem extCodeByte_c3Abandon (s : State) (he : 0x90 ≤ e.toNat ∧ e.toNat ≤ 0x9F) :
    extCodeByte e s = c3Abandon e s := by
  unfold extCodeByte
  rw [if_neg (by omega), if_neg (by omega), if_neg (by omega), if_pos he.2]

/-- A byte of a pending code moves no cursor (R226, R271, R311). -/
theorem decodeByte_cursors_of_pending (b : Byte) (hm : s.mode ≠ .dataWait)
    (hp : s.mode = .extendedPending → s.extPhase = .skip) : (decodeByte b s).cursors = s.cursors := by
  unfold decodeByte
  split
  · next h => exact absurd h hm
  · exact c0Byte_cursors b s
  · exact c1Byte_cursors b s
  · next h =>
    simp only [extByte, hp h]
    exact extSkipByte_cursors s

theorem endOfBytes_cursors (s : State) : (endOfBytes s).cursors = s.cursors := by
  unfold endOfBytes
  split <;> rfl

theorem openBlock_cursors (s : State) : (openBlock s).cursors = s.cursors := by
  unfold openBlock
  dsimp only
  split
  · rfl
  · exact andThen_cursors (allocate_steps ..).cursors fun _ => (setTimestamp_steps ..).cursors

theorem deliver_cursors (s : State) : (deliver s).cursors = s.cursors := by
  rw [deliver_eq]
  exact andThen_cursors (dispatch_steps ..).cursors fun _ =>
    andThen_cursors (release_steps ..).cursors fun _ => rfl

theorem closeBlock_cursors (s : State) : (closeBlock s).cursors = s.cursors := by
  refine andThen_cursors (andThen_cursors (countCheck_steps s).cursors fun t => ?_) fun _ => rfl
  split
  · rfl
  · exact deliver_cursors t

theorem packetHeader_cursors (seq : BitVec 2) (code : BitVec 6) (s : State) :
    (packetHeader seq code s).cursors = s.cursors := by
  refine (lengthCheck_steps code _).cursors.trans ?_
  unfold seqCheck
  dsimp only
  split <;> rfl

/-! ### The decoder stays inside its block -/

theorem c3Abandon_inBlock (e : Byte) (h : s.cursors.InBlock 0) : (c3Abandon e s).cursors.InBlock 0 := by
  obtain ⟨-, hend, hsvc⟩ := h
  exact ⟨le_rfl, hend, hsvc⟩

theorem extCodeByte_inBlock (e : Byte) (h : s.cursors.InBlock 0) : (extCodeByte e s).cursors.InBlock 0 := by
  by_cases he : 0x90 ≤ e.toNat ∧ e.toNat ≤ 0x9F
  · rw [extCodeByte_c3Abandon s he]
    exact c3Abandon_inBlock e h
  · rwa [extCodeByte_cursors s he]

theorem decodeByte_inBlock (b : Byte) (h : s.cursors.InBlock 0) : (decodeByte b s).cursors.InBlock 0 := by
  unfold decodeByte
  split
  · rwa [dataWaitByte_cursors]
  · rwa [c0Byte_cursors]
  · rwa [c1Byte_cursors]
  · unfold extByte
    split
    · exact extCodeByte_inBlock b h
    · rwa [extSkipByte_cursors]

theorem decodeLoop_inBlock (fuel : Nat) (h : s.cursors.InBlock 0) : (decodeLoop fuel s).cursors.InBlock 0 := by
  induction fuel generalizing s with
  | zero => exact h
  | succ fuel ih =>
    unfold decodeLoop
    split; · exact h
    split
    · next hlt =>
      obtain ⟨-, hend, hsvc⟩ := h
      have hbyte : s.cursors.InBlock 1 := ⟨hlt, hend, hsvc⟩
      exact ih (decodeByte_inBlock _ hbyte.move)
    · exact h

theorem decodeBlock_inBlock (h : s.cursors.InBlock 0) : (decodeBlock s).cursors.InBlock 0 := by
  rw [decodeBlock, andThen_cursors rfl endOfBytes_cursors]
  exact decodeLoop_inBlock _ h

/-! ### The bytes of one code stay inside their block -/

/-- No more bytes than the pending code needs, and no more than the block has, leave `rd` inside the block. -/
theorem feed_pending_inBlock (bytes : List Byte) (hs : s.Awaits n) (hlen : bytes.length ≤ n)
    (h : s.cursors.InBlock bytes.length) : (feed bytes s).cursors.InBlock 0 := by
  induction bytes generalizing s n with
  | nil => exact h
  | cons b rest ih =>
    cases hf : s.fatal with
    | true =>
      rw [feed_of_halted hf]
      exact h.mono (Nat.zero_le _)
    | false =>
      rw [List.length_cons] at hlen
      obtain ⟨h0, -⟩ | ⟨-, hm, hp, hr⟩ := hs hf
      · omega
      · rw [feed_cons_of_live hf]
        have hpred := decodeByte_awaits_pred b (s := { s with rd := cursor (s.rd.val + 1) }) hm hp
        have hkept := decodeByte_cursors_of_pending b (s := { s with rd := cursor (s.rd.val + 1) }) hm hp
        exact ih hpred (by simp only [hr]; omega) (hkept ▸ h.move)

theorem totalLen_le {c : C1Table} (hc : c.admissible = true) (b : Byte) : totalLen c b ≤ maxCodeLen := by
  obtain ⟨-, hle⟩ := C1Table.lenOf_bounds hc b
  unfold totalLen maxCodeLen
  split_ifs <;> omega

/-- The bytes of one code after EXT1, as far as the block holds them: a code that skips the rest of the block has no
byte after its extended code byte (R320). -/
theorem feed_extended_inBlock {rest : List Byte} (k : Nat) (hlen : rest.length + 2 = totalLenExtended e)
    (hm : s.mode = .extendedPending) (hp : s.extPhase = .code) (hf : s.fatal = false)
    (h : s.cursors.InBlock ((e :: rest).take k).length) : (feed ((e :: rest).take k) s).cursors.InBlock 0 := by
  cases k with
  | zero => exact h
  | succ k =>
    rw [List.take_succ_cons, List.length_cons] at h
    rw [List.take_succ_cons, feed_cons_of_live hf, consume_extCode e hm hp]
    by_cases he : 0x90 ≤ e.toNat ∧ e.toNat ≤ 0x9F
    · obtain rfl : rest = [] := by
        rw [totalLenExtended_char (.inr he.1)] at hlen
        exact List.eq_nil_of_length_eq_zero (by omega)
      rw [List.take_nil] at h ⊢
      exact extCodeByte_inBlock e h.move
    · refine feed_pending_inBlock _ (extCodeByte_awaits e hm) ?_ ?_
      · have := List.length_take_le' k rest
        omega
      · rw [extCodeByte_cursors _ he]
        exact h.move

/-- The bytes of one code, as far as the block holds them, leave `rd` inside the block (R221, R320). -/
theorem feed_codeBytes_inBlock {bytes : List Byte} (k : Nat) (hc : s.cfg.c1.admissible = true) (hs : s.decoderIdle)
    (hf : s.fatal = false) (hbytes : CodeBytes s.cfg.c1 bytes) (h : s.cursors.InBlock (bytes.take k).length) :
    (feed (bytes.take k) s).cursors.InBlock 0 := by
  cases k with
  | zero => exact h
  | succ k =>
    cases hbytes with
    | @plain b rest hb hlen =>
      rw [List.take_succ_cons, List.length_cons] at h
      rw [List.take_succ_cons, feed_cons_of_live hf, consume_dataWait b hs.1]
      have hfirst := dataWaitByte_awaits (s := { s with rd := cursor (s.rd.val + 1) }) hs hb
      refine feed_pending_inBlock _ hfirst ?_ ?_
      · have hmax : totalLen s.cfg.c1 b ≤ 7 := totalLen_le hc b
        have hrest := List.length_take_le' k rest
        change (rest.take k).length ≤ min (totalLen s.cfg.c1 b - 1) 6
        omega
      · rw [dataWaitByte_cursors]
        exact h.move
    | @extended e rest hlen =>
      rw [List.take_succ_cons, List.length_cons] at h
      rw [List.take_succ_cons, feed_cons_of_live hf, consume_dataWait 0x10 hs.1, dataWaitByte_ext1]
      exact feed_extended_inBlock k hlen rfl rfl hf h.move

theorem runCode_inBlock {bytes : List Byte} (hc : s.cfg.c1.admissible = true) (hs : s.decoderIdle)
    (hf : s.fatal = false) (hbytes : CodeBytes s.cfg.c1 bytes) (h : s.cursors.InBlock 0) :
    (runCode bytes s).cursors.InBlock 0 := by
  have hend (u : State) : (if u.rd.val < u.sbEnd.val then u else endOfBytes u).cursors = u.cursors := by
    split
    · rfl
    · exact endOfBytes_cursors u
  rw [runCode, andThen_cursors rfl hend]
  exact feed_codeBytes_inBlock _ hc hs hf hbytes (h.ahead.mono (List.length_take_le _ bytes))

end Sys2Proof.Machine
end

section
/-! Every step keeps the cursors inside the packet and the block (20_memory.md R66), loop by loop. -/

namespace Sys2Proof.Machine

-- One proof at a time: in parallel they need more threads than the memory limit allows.
set_option Elab.async false

variable {s t : State}

/-! ### The clauses of the statement, loop by loop -/

/-- Unless the machine is halted, it is in a loop that has no cursor in the packet (R24). -/
abbrev State.OutsidePacket (s : State) : Prop :=
  s.UnlessHalted fun u => u.phase ≠ .header ∧ u.phase ≠ .parse ∧ u.phase ≠ .block

theorem State.OutsidePacket.cursorsInside (h : s.OutsidePacket) : s.CursorsInside where
  header hf hp := absurd hp (h hf).1
  parse hf hp := absurd hp (h hf).2.1
  block hf hp := absurd hp (h hf).2.2

theorem State.Rests.outsidePacket (h : s.Rests) : s.OutsidePacket := by
  intro hf
  obtain ⟨-, -, hp, -⟩ := h hf
  simp [hp]

/-- Unless the machine is halted, it is in the block loop, with `rd` inside the packet (R24, R190). -/
abbrev State.BetweenBlocks (s : State) : Prop :=
  s.UnlessHalted fun u => u.phase = .parse ∧ u.rd.val ≤ u.pktLen.val

theorem State.BetweenBlocks.cursorsInside (h : s.BetweenBlocks) : s.CursorsInside where
  header hf hp := by simp [(h hf).1] at hp
  parse hf _ := (h hf).2
  block hf hp := by simp [(h hf).1] at hp

/-- Inside a block only the clause of the block applies. -/
theorem cursorsInside_of_block (hp : s.phase = .block) (h : s.cursors.InBlock 0) : s.CursorsInside where
  header _ hp' := by simp [hp] at hp'
  parse _ hp' := by simp [hp] at hp'
  block _ _ := h

/-! ### The agents and the assembler -/

/-- An operation of the agents leaves the machine between operations, where there is no cursor (R24). -/
theorem stepHost_rests (hs : s.Inv) (hp : s.fatal = true ∨ s.phase = .host) (hx : stepHost s = .next t) :
    t.Rests := by
  unfold stepHost at hx
  split at hx
  · split at hx <;> cases hx
  · next i rest hreq =>
    split at hx
    · next hop =>
      refine exec_channelOp_rests hop (s := { s with requests := rest }) (fun hf => ?_) hx
      obtain hhalt | hhost := hp
      · exact absurd hhalt (by simp [show s.fatal = false from hf])
      · exact hs.rests hhost hf
    · cases hx

theorem phaseAfterFlush_cases (s : State) : phaseAfterFlush s = .accept ∨ phaseAfterFlush s = .host := by
  unfold phaseAfterFlush
  split
  · exact .inl rfl
  · exact .inr rfl

theorem outsidePacket_of_phaseAfterFlush {u : State} (h : s.fatal = false → s.phase = phaseAfterFlush u) :
    s.OutsidePacket := by
  intro hf
  obtain hp | hp := phaseAfterFlush_cases u <;> simp [h hf, hp]

theorem flush_outsidePacket (s : State) : (flush s).OutsidePacket := outsidePacket_of_phaseAfterFlush flush_phase

theorem construct_outsidePacket (hdr b0 b1 : Byte) (hs : s.OutsidePacket) :
    (construct hdr b0 b1 s).OutsidePacket := by
  unfold construct packetStart packetStartInvalid packetData
  split
  · split
    · exact unlessHalted_andThen fun _ => flush_outsidePacket s
    · exact flush_outsidePacket s
  split
  · split
    · split
      · exact hs
      · exact hs
    · exact hs
  · exact hs

theorem endAccept_outsidePacket (inbuf : Nat) (s : State) : (endAccept inbuf s).OutsidePacket :=
  unlessHalted_andThen fun _ _ => by simp

theorem endTerminate_outsidePacket (s : State) : (endTerminate s).OutsidePacket :=
  endTerminate_eq s ▸ unlessHalted_andThen fun _ _ => by simp

theorem afterFlush_outsidePacket (hs : s.OutsidePacket) : (afterFlush s).OutsidePacket := by
  unfold afterFlush
  split
  · exact hs
  · exact endTerminate_outsidePacket s
  · split
    · exact hs
    · exact hs

theorem stepInside_accept_outsidePacket (hf : s.fatal = false) (hp : s.phase = .accept)
    (hx : stepInside s = .next t) : t.OutsidePacket := by
  have hs : s.OutsidePacket := fun _ => by simp [hp]
  cases hc : s.inProgress with
  | accept h n =>
    rw [stepInside_accept hf hp hc] at hx
    cases hx
    split
    · exact unlessHalted_andThen fun _ => construct_outsidePacket _ _ _ hs
    · exact endAccept_outsidePacket h s
  | none | terminate =>
    simp only [stepInside, fetch, fetchBytes, endOfLoop, hp, hc] at hx
    cases hx
    exact fun _ => by simp

theorem stepInside_parsed_outsidePacket (hp : s.phase = .parsed) (hx : stepInside s = .next t) :
    t.OutsidePacket := by
  rw [stepInside_parsed hp] at hx
  cases hx
  exact afterFlush_outsidePacket (outsidePacket_of_phaseAfterFlush (u := s) fun _ => rfl)

/-! ### The parser -/

/-- After the last lines of `ProcessBlock` the block loop goes on, at the same place (R198). -/
theorem closeBlock_betweenBlocks (h : s.cursors.InBlock 0) : (closeBlock s).BetweenBlocks := by
  intro hf
  refine ⟨?_, Cursors.InBlock.rd_le_pktLen (by rwa [closeBlock_cursors])⟩
  obtain ⟨-, heq⟩ := andThen_live hf
  simp [closeBlock, heq]

theorem processBlock_betweenBlocks (h : s.cursors.InBlock 0) : (processBlock s).BetweenBlocks := by
  refine unlessHalted_andThen fun _ => closeBlock_betweenBlocks ?_
  refine andThen_induct (P := fun u => u.cursors.InBlock 0) ?_ fun _ => decodeBlock_inBlock
  rwa [openBlock_cursors]

/-- The clamp of R196 keeps the block inside the packet. -/
theorem clamp_inBlock {svc : BitVec 6} (size : BitVec 5) (hsvc : svc ≠ 0) (hrd : s.rd.val ≤ s.pktLen.val) :
    ({ s with
        sbSvc := svc, sbLen := size
        sbEnd := cursor (s.rd.val + min size.toNat (s.pktLen.val - s.rd.val)) } : State).cursors.InBlock 0 := by
  have hlen := s.pktLen.isLt
  refine ⟨?_, ?_, hsvc⟩ <;> simp only [State.cursors, cursor_val] <;> omega

theorem takeBlock_cursorsInside {svc : BitVec 6} (size : BitVec 5) (hsvc : svc ≠ 0)
    (hrd : s.rd.val ≤ s.pktLen.val) : (takeBlock svc size s).CursorsInside := by
  unfold takeBlock
  dsimp only
  split
  · exact (processBlock_betweenBlocks (clamp_inBlock (s := raise _ s) size hsvc hrd)).cursorsInside
  · exact (processBlock_betweenBlocks (clamp_inBlock size hsvc hrd)).cursorsInside

theorem abandonPacket_cursorsInside (size : BitVec 5) (s : State) : (abandonPacket size s).CursorsInside :=
  State.OutsidePacket.cursorsInside fun _ => by simp [abandonPacket]

theorem stopParse_cursorsInside (s : State) : (stopParse s).CursorsInside :=
  State.OutsidePacket.cursorsInside fun _ => by simp

theorem advance_rd_le_pktLen {n : Nat} (h : s.rd.val + n ≤ s.pktLen.val) :
    (advance n s).rd.val ≤ (advance n s).pktLen.val := by
  simp only [advance, cursor_val]
  omega

/-- An extended header has a service number other than 0, or it stops the block loop (R194, R195). -/
theorem sbExt_cursorsInside (size : BitVec 5) (svc : BitVec 6) (h : s.rd.val + 2 ≤ s.pktLen.val) :
    (sbExt size svc s).CursorsInside := by
  unfold sbExt
  dsimp only
  split
  · exact abandonPacket_cursorsInside size _
  · next hsvc =>
    refine takeBlock_cursorsInside size hsvc ?_
    split
    · exact advance_rd_le_pktLen h
    · exact advance_rd_le_pktLen h

theorem sbStd_cursorsInside {svc : BitVec 3} (size : BitVec 5) (hsvc : svc ≠ 0)
    (h : s.rd.val + 1 ≤ s.pktLen.val) : (sbStd svc size s).CursorsInside :=
  takeBlock_cursorsInside size (by bv_omega) (advance_rd_le_pktLen h)

/-- An iteration of the block loop, which looks at the bytes of a header only where two are left (R190). -/
theorem parseStep_cursorsInside (s : State) : (parseStep s).CursorsInside := by
  unfold parseStep
  dsimp only
  split; · exact stopParse_cursorsInside s
  split; · exact stopParse_cursorsInside s
  split; · exact sbExt_cursorsInside _ _ (by omega)
  split; · exact abandonPacket_cursorsInside _ _
  · next hsvc => exact sbStd_cursorsInside _ hsvc (by omega)

/-! ### The steps -/

/-- The block loop begins behind the packet header byte, which every packet that is parsed has (R166, R190). -/
theorem stepInside_header_cursorsInside (hs : s.CursorsInside) (hf : s.fatal = false) (hp : s.phase = .header)
    (hx : stepInside s = .next t) : t.CursorsInside := by
  obtain ⟨seq, code, heq⟩ := stepInside_header hf hp
  rw [heq] at hx
  cases hx
  have hlen : (packetHeader seq code s).pktLen = s.pktLen :=
    (congrArg Cursors.pktLen (packetHeader_cursors seq code s) :)
  refine State.BetweenBlocks.cursorsInside (unlessHalted_andThen fun _ _ => ⟨rfl, ?_⟩)
  change 1 ≤ (packetHeader seq code s).pktLen.val
  rw [hlen]
  exact hs.header hf hp

theorem stepInside_block_cursorsInside (hinv : s.Inv) (hs : s.CursorsInside) (hf : s.fatal = false)
    (hp : s.phase = .block) (hx : stepInside s = .next t) : t.CursorsInside := by
  have hin : s.cursors.InBlock 0 := hs.block hf hp
  have hc := Params.c1_admissible hinv.params
  obtain ⟨bytes, hbytes, heq⟩ | heq := stepInside_block hf hp hc <;> rw [heq] at hx <;> cases hx
  · exact cursorsInside_of_block ((runCode_steps bytes s).phase.trans hp)
      (runCode_inBlock hc (hinv.idle hf) hf hbytes hin)
  · refine State.BetweenBlocks.cursorsInside (unlessHalted_andThen fun _ => closeBlock_betweenBlocks ?_)
    rwa [endOfBytes_cursors]

/-- Settles O12: between operations no cursor clause applies, inside one by the lemma of its loop. -/
theorem stepKeepsCursorsInside : Obligations.StepKeepsCursorsInside := by
  intro s t hinv hs hx
  by_cases hhost : s.fatal = true ∨ s.phase = .host
  · exact (stepHost_rests hinv hhost (step_eq_stepHost hhost ▸ hx)).outsidePacket.cursorsInside
  · obtain ⟨hlive, hinside⟩ := not_or.1 hhost
    have hf : s.fatal = false := by simpa using hlive
    rw [step_eq_stepInside hf hinside] at hx
    cases hp : s.phase with
    | host => exact absurd hp hinside
    | accept => exact (stepInside_accept_outsidePacket hf hp hx).cursorsInside
    | header => exact stepInside_header_cursorsInside hs hf hp hx
    | parse =>
      rw [stepInside_parse hf hp] at hx
      cases hx
      exact parseStep_cursorsInside s
    | parsed => exact (stepInside_parsed_outsidePacket hp hx).cursorsInside
    | block => exact stepInside_block_cursorsInside hinv hs hf hp hx

end Sys2Proof.Machine
end

section
/-! The decoder and the encoder of levels A and B invert each other, and what they read of a byte (30_encoding.md R91 to
R97, R119). -/

namespace Sys2Proof

variable {t : Tags} {i : Instr} {hdr h e b0 b1 : Byte} {rest : List Byte}

/-! ### The fields of a byte -/

/-- A field inside the bits `hi:0` is the same in two bytes that agree there. -/
theorem extractLsb'_congr_of_low {hi lo width : Nat} {b b' : Byte} (hb : b.extractLsb hi 0 = b'.extractLsb hi 0)
    (hle : lo + width ≤ hi + 1) : b.extractLsb' lo width = b'.extractLsb' lo width := by
  calc b.extractLsb' lo width
      = (b.extractLsb hi 0).extractLsb' lo width := (BitVec.extractLsb'_extractLsb'_of_le hle).symm
    _ = (b'.extractLsb hi 0).extractLsb' lo width := by rw [hb]
    _ = b'.extractLsb' lo width := BitVec.extractLsb'_extractLsb'_of_le hle

@[simp] theorem hdrTag_constructHdr (valid : Bool) (tag : BitVec 2) : hdrTag (constructHdr valid tag) = tag :=
  BitVec.extractLsb'_append_eq_right

@[simp] theorem hdrValid_constructHdr (valid : Bool) (tag : BitVec 2) :
    hdrValid (constructHdr valid tag) = valid := by
  revert valid tag; decide

@[simp] theorem hdrService_blockHdr (svc : BitVec 3) (size : BitVec 5) : hdrService (blockHdr svc size) = svc :=
  BitVec.extractLsb'_append_eq_left

@[simp] theorem hdrSize_blockHdr (svc : BitVec 3) (size : BitVec 5) : hdrSize (blockHdr svc size) = size :=
  BitVec.extractLsb'_append_eq_right

@[simp] theorem extService_append (pad : BitVec 2) (ext : BitVec 6) : extService (pad ++ ext) = ext :=
  BitVec.extractLsb'_append_eq_right

/-- The valid bit lies in the bits 2:0 that R91 does not ignore. -/
theorem hdrValid_eq_getLsbD_low (hdr : Byte) : hdrValid hdr = (hdr.extractLsb 2 0).getLsbD 2 := by
  simp [hdrValid]

/-! ### The rows of a construct header -/

theorem Tags.distinct_iff : t.distinct = true ↔
    t.field1 ≠ t.field2 ∧ t.field1 ≠ t.pktStart ∧ t.field1 ≠ t.pktData ∧
    t.field2 ≠ t.pktStart ∧ t.field2 ≠ t.pktData ∧ t.pktStart ≠ t.pktData := by
  simp [Tags.distinct, and_assoc]

theorem constructInstr_pktStart (ht : hdrTag hdr = t.pktStart) :
    constructInstr t hdr b0 b1 = if hdrValid hdr then .ps b0 b1 else .psInvalid b0 b1 :=
  if_pos ht

theorem constructInstr_pktData (hd : t.distinct = true) (ht : hdrTag hdr = t.pktData) :
    constructInstr t hdr b0 b1 = if hdrValid hdr then .pd b0 b1 else .pdInvalid b0 b1 := by
  obtain ⟨-, -, -, -, -, hsd⟩ := Tags.distinct_iff.1 hd
  rw [constructInstr, ht, if_neg hsd.symm, if_pos rfl]

theorem constructInstr_field1 (hd : t.distinct = true) (ht : hdrTag hdr = t.field1) :
    constructInstr t hdr b0 b1 = .f1 (hdrValid hdr) b0 b1 := by
  obtain ⟨-, h1s, h1d, -, -, -⟩ := Tags.distinct_iff.1 hd
  rw [constructInstr, ht, if_neg h1s, if_neg h1d, if_pos rfl]

theorem constructInstr_field2 (hd : t.distinct = true) (ht : hdrTag hdr = t.field2) :
    constructInstr t hdr b0 b1 = .f2 (hdrValid hdr) b0 b1 := by
  obtain ⟨h12, -, -, h2s, h2d, -⟩ := Tags.distinct_iff.1 hd
  rw [constructInstr, ht, if_neg h2s, if_neg h2d, if_neg h12.symm]

theorem decodeConstruct_of_constructInstr (hi : constructInstr t hdr b0 b1 = i) :
    decodeConstruct t (hdr :: b0 :: b1 :: rest) = .ok (i, rest) := by
  rw [decodeConstruct, hi]

/-! ### The rows of a service-block header -/

theorem decodeBlockHeader_sbNull (hz : hdrSize h = 0) :
    decodeBlockHeader (h :: rest) = .ok (.sbNull (hdrService h), rest) :=
  if_pos hz

theorem decodeBlockHeader_sbExt (hz : hdrSize h ≠ 0) (hs : hdrService h = 7) :
    decodeBlockHeader (h :: e :: rest) = .ok (.sbExt (hdrSize h) (extService e), rest) :=
  (if_neg hz).trans (if_pos hs)

theorem decodeBlockHeader_sbSvc0 (hz : hdrSize h ≠ 0) (hs : hdrService h = 0) :
    decodeBlockHeader (h :: rest) = .ok (.sbSvc0 (hdrSize h), rest) :=
  (if_neg hz).trans ((if_neg (by rw [hs]; decide)).trans (if_pos hs))

theorem decodeBlockHeader_sbStd (hz : hdrSize h ≠ 0) (h7 : hdrService h ≠ 7) (h0 : hdrService h ≠ 0) :
    decodeBlockHeader (h :: rest) = .ok (.sbStd (hdrService h) (hdrSize h), rest) :=
  (if_neg hz).trans ((if_neg h7).trans (if_neg h0))

/-! ### Decoding what the encoder wrote -/

/-- Decoding the encoding of a construct gives it back, whatever bytes follow (R91, R92). -/
theorem decodeConstruct_encode (rest : List Byte) (hd : t.distinct = true) (hl : i.level = .construct) :
    decodeConstruct t (encode t i ++ rest) = .ok (i, rest) := by
  cases i with
  | ps | psInvalid =>
    exact decodeConstruct_of_constructInstr ((constructInstr_pktStart (hdrTag_constructHdr ..)).trans (by simp))
  | pd | pdInvalid =>
    exact decodeConstruct_of_constructInstr ((constructInstr_pktData hd (hdrTag_constructHdr ..)).trans (by simp))
  | f1 =>
    exact decodeConstruct_of_constructInstr ((constructInstr_field1 hd (hdrTag_constructHdr ..)).trans (by simp))
  | f2 =>
    exact decodeConstruct_of_constructInstr ((constructInstr_field2 hd (hdrTag_constructHdr ..)).trans (by simp))
  | _ => cases hl

/-- Decoding the encoding of a packet header gives it back, whatever bytes follow (R93). -/
theorem decodePacketHeader_encode (t : Tags) (rest : List Byte) (hl : i.level = .packetHeader) :
    decodePacketHeader (encode t i ++ rest) = .ok (i, rest) := by
  cases i with
  | pktHdr seq code =>
    rw [encode, List.singleton_append, decodePacketHeader, BitVec.extractLsb'_append_eq_left,
      BitVec.extractLsb'_append_eq_right]
  | _ => cases hl

/-- Decoding the encoding of a service-block header in the range of its row gives it back, whatever bytes follow
(R95 to R97). -/
theorem decodeBlockHeader_encode (t : Tags) (rest : List Byte) (hr : i.inRange = true)
    (hl : i.level = .blockHeader) : decodeBlockHeader (encode t i ++ rest) = .ok (i, rest) := by
  cases i with
  | sbNull svc => exact (decodeBlockHeader_sbNull (hdrSize_blockHdr ..)).trans (by simp)
  | sbSvc0 size =>
    have hz : size ≠ 0 := bne_iff_ne.1 hr
    exact (decodeBlockHeader_sbSvc0 (by simpa using hz) (hdrService_blockHdr ..)).trans (by simp)
  | sbStd svc size =>
    obtain ⟨⟨h0, h7⟩, hz⟩ : (svc ≠ 0 ∧ svc ≠ 7) ∧ size ≠ 0 := by simpa [Instr.inRange] using hr
    exact (decodeBlockHeader_sbStd (by simpa using hz) (by simpa using h7) (by simpa using h0)).trans (by simp)
  | sbExt size ext =>
    have hz : size ≠ 0 := bne_iff_ne.1 hr
    exact (decodeBlockHeader_sbExt (by simpa using hz) (hdrService_blockHdr ..)).trans (by simp)
  | _ => cases hl

end Sys2Proof
end

section
/-! The statements of 30_encoding.md. -/

namespace Sys2Proof.Machine

/-- Settles O1, level by level; level C is `decodeCode_encode`. -/
theorem decodeOfEncodeIsIdentity : Obligations.DecodeOfEncodeIsIdentity := by
  intro p i rest hd hw hl
  have hrange : i.inRange = true := (Bool.and_eq_true_iff.1 hw).1
  cases hlevel : i.level with
  | construct => exact decodeConstruct_encode rest hd hlevel
  | packetHeader => exact decodePacketHeader_encode p.tags rest hlevel
  | blockHeader => exact decodeBlockHeader_encode p.tags rest hrange hlevel
  | code => exact decodeCode_encode p.tags rest hw hlevel
  | operation => exact absurd hlevel hl

/-- Settles O4: each clause is the row of its tag, at the value of the valid bit that it names. -/
theorem constructSelection : Obligations.ConstructSelection := by
  intro p hdr b0 b1 rest hd t tag d
  refine ⟨fun ht hv => ?ps, fun ht hv => ?psInvalid, fun ht hv => ?pd, fun ht hv => ?pdInvalid,
    fun ht => ?f1, fun ht => ?f2⟩
  case ps => exact decodeConstruct_of_constructInstr ((constructInstr_pktStart ht).trans (if_pos hv))
  case psInvalid =>
    exact decodeConstruct_of_constructInstr ((constructInstr_pktStart ht).trans (if_neg (Bool.eq_false_iff.1 hv)))
  case pd => exact decodeConstruct_of_constructInstr ((constructInstr_pktData hd ht).trans (if_pos hv))
  case pdInvalid =>
    exact decodeConstruct_of_constructInstr ((constructInstr_pktData hd ht).trans (if_neg (Bool.eq_false_iff.1 hv)))
  case f1 => exact decodeConstruct_of_constructInstr (constructInstr_field1 hd ht)
  case f2 => exact decodeConstruct_of_constructInstr (constructInstr_field2 hd ht)

/-- `extractLsb'_congr_of_low` for the fields of a payload. -/
theorem field_congr_of_low {hi lo width : Nat} {b b' : Byte} (hb : b.extractLsb hi 0 = b'.extractLsb hi 0)
    (hle : lo + width ≤ hi + 1) : field b lo width = field b' lo width :=
  extractLsb'_congr_of_low hb hle

/-- Settles O5: every field that is read lies in the bits that the two bytes share (`extractLsb'_congr_of_low`). -/
theorem ignoredBitsChangeNothing : Obligations.IgnoredBitsChangeNothing := by
  refine ⟨?construct, ?extended, ?penColor, ?penLocation, ?window⟩
  case construct =>
    intro p h h' b0 b1 rest hh
    have htag : hdrTag h = hdrTag h' := extractLsb'_congr_of_low hh (by decide)
    have hvalid : hdrValid h = hdrValid h' := by rw [hdrValid_eq_getLsbD_low, hh, hdrValid_eq_getLsbD_low]
    simp only [decode, decodeConstruct, constructInstr, htag, hvalid]
  case extended =>
    intro p h e e' rest hs hz he
    have hext : extService e = extService e' := extractLsb'_congr_of_low he (by decide)
    calc decodeBlockHeader (h :: e :: rest)
        = .ok (.sbExt (hdrSize h) (extService e), rest) := decodeBlockHeader_sbExt hz hs
      _ = .ok (.sbExt (hdrSize h) (extService e'), rest) := by rw [hext]
      _ = decodeBlockHeader (h :: e' :: rest) := (decodeBlockHeader_sbExt hz hs).symm
  case penColor =>
    intro p1 p2 p3 p3' h3
    simp [penColor, field_congr_of_low h3]
  case penLocation =>
    intro p1 p1' p2 p2' h1 h2
    simp [penLocation, field_congr_of_low h1, field_congr_of_low h2]
  case window =>
    intro b p1 p1' p2 p3 p4 p5 p5' p6 p6' h1 h5 h6
    simp [windowDefinition, field_congr_of_low h1, field_congr_of_low h5, field_congr_of_low h6]

end Sys2Proof.Machine
end

section
/-! The operations of the substrate on a slot in use (40_buffer_fanout.md R130 to R134). -/

namespace Sys2Proof.Machine

variable {s : State} {i : Nat} {p q : Slot}

/-! ### The slot a handle names -/

theorem State.LiveSlot.notHalted (h : s.LiveSlot i p) : s.fatal = false := h.1
theorem State.LiveSlot.getSlot (h : s.LiveSlot i p) : s.pool[i]? = some p := h.2.1
theorem State.LiveSlot.inUse (h : s.LiveSlot i p) : p.inUse = true := h.2.2

theorem slotOf_of_liveSlot (h : s.LiveSlot i p) : slotOf s (some i) = some (i, p) :=
  slotOf_eq_some.2 ⟨rfl, h.getSlot, h.inUse⟩

theorem slotOf_of_badHandle {h : Handle} (hb : s.badHandle h) : slotOf s h = none := by
  cases hs : slotOf s h with
  | none => rfl
  | some iq =>
    obtain ⟨rfl, hpool, huse⟩ := slotOf_eq_some.1 hs
    exact absurd huse (by simp [hb _ hpool])

theorem badHandle_of_not_inUse (hp : s.pool[i]? = some p) (hu : p.inUse = false) : s.badHandle (some i) := by
  intro q hq
  rw [hp] at hq
  cases hq
  exact hu

/-- Every operation on a handle starts with the check of R130. -/
theorem withSlot_of_badHandle {h : Handle} (hb : s.badHandle h) (f : Nat → Slot → State → State) :
    withSlot h f s = raiseFatal .contract s :=
  withSlot_of_none (slotOf_of_badHandle hb)

theorem setSlot_getElem? (hp : s.pool[i]? = some p) : (setSlot i q s).pool[i]? = some q := by
  obtain ⟨hlt, -⟩ := List.getElem?_eq_some_iff.1 hp
  exact List.getElem?_set_self hlt

theorem setSlot_liveSlot (h : s.LiveSlot i p) (hq : q.inUse = true) : (setSlot i q s).LiveSlot i q :=
  ⟨h.notHalted, setSlot_getElem? h.getSlot, hq⟩

theorem setSlot_setSlot (i : Nat) (p q : Slot) (s : State) : setSlot i q (setSlot i p s) = setSlot i q s := by
  simp [setSlot]

theorem setSlot_of_getElem? (hp : s.pool[i]? = some p) : setSlot i p s = s := by
  obtain ⟨hlt, rfl⟩ := List.getElem?_eq_some_iff.1 hp
  simp [setSlot]

/-! ### The operations -/

theorem append_of_full (h : s.LiveSlot i p) (hn : p.numElements = p.maxNumElements) (v : Element) :
    append (some i) v s = raiseFatal .countMismatch s := by
  rw [append, withSlot_of_some (slotOf_of_liveSlot h), if_pos hn]

theorem append_of_room (h : s.LiveSlot i p) (hn : p.numElements ≠ p.maxNumElements) (v : Element) :
    append (some i) v s = setSlot i { p with data := p.data ++ [v] } s := by
  rw [append, withSlot_of_some (slotOf_of_liveSlot h), if_neg hn]

theorem setTimestamp_of_liveSlot (h : s.LiveSlot i p) (ts : Timestamp) :
    setTimestamp (some i) ts s = setSlot i { p with ts := ts } s :=
  withSlot_of_some (slotOf_of_liveSlot h)

theorem addReader_of_liveSlot (h : s.LiveSlot i p) :
    addReader (some i) s = setSlot i { p with readers := p.readers + 1 } s :=
  withSlot_of_some (slotOf_of_liveSlot h)

theorem release_of_no_reader (h : s.LiveSlot i p) (hr : p.readers = 0) :
    release (some i) s = raiseFatal .contract s := by
  rw [release, withSlot_of_some (slotOf_of_liveSlot h), if_pos hr]

/-- The last reader's release frees the slot. -/
theorem release_of_last_reader (h : s.LiveSlot i p) (hr : p.readers = 1) :
    release (some i) s = setSlot i { p with readers := 0, inUse := false } s := by
  rw [release, withSlot_of_some (slotOf_of_liveSlot h), if_neg (by omega)]
  simp [hr]

/-- A release before the last one leaves the slot in use. -/
theorem release_of_two_readers (h : s.LiveSlot i p) (hr : 2 ≤ p.readers) :
    release (some i) s = setSlot i { p with readers := p.readers - 1 } s := by
  have huse : p.inUse = true := h.inUse
  rw [release, withSlot_of_some (slotOf_of_liveSlot h), if_neg (by omega)]
  have hleft : decide (p.readers - 1 ≠ 0) = p.inUse := by rw [huse, decide_eq_true_eq]; omega
  rw [hleft]

/-- The increments of a Dispatch come to one reader per sink (R136). -/
theorem addReaders_of_liveSlot (n : Nat) (h : s.LiveSlot i p) :
    addReaders (some i) n s = setSlot i { p with readers := p.readers + n } s := by
  induction n generalizing s p with
  | zero => exact (setSlot_of_getElem? h.getSlot).symm
  | succ n ih =>
    have hlive : (setSlot i { p with readers := p.readers + 1 } s).LiveSlot i { p with readers := p.readers + 1 } :=
      setSlot_liveSlot h h.inUse
    rw [addReaders, addReader_of_liveSlot h, andThen_of_live hlive.notHalted, ih hlive, setSlot_setSlot, Nat.add_assoc,
      Nat.add_comm 1 n]

/-! ### The instructions

Each is its operation on the state without the result of the one before. -/

theorem liveSlot_ret (h : s.LiveSlot i p) (r : Option RetVal) : { s with ret := r }.LiveSlot i p := h

/-- An instruction that is the operation `f` has its effect where the machine is not halted. -/
theorem operation_of_live {f : State → State} (hf : s.fatal = false) :
    operation f s = .next (f { s with ret := none }) :=
  operation_eq_next.2 ⟨hf, rfl⟩

theorem exec_addReader_of_liveSlot (h : s.LiveSlot i p) :
    exec (.addReader (some i)) s = .next (setSlot i { p with readers := p.readers + 1 } { s with ret := none }) :=
  (operation_of_live h.notHalted).trans (congrArg _ (addReader_of_liveSlot (liveSlot_ret h none)))

theorem exec_release_of_last_reader (h : s.LiveSlot i p) (hr : p.readers = 1) :
    exec (.release (some i)) s =
      .next (setSlot i { p with readers := 0, inUse := false } { s with ret := none }) :=
  (operation_of_live h.notHalted).trans (congrArg _ (release_of_last_reader (liveSlot_ret h none) hr))

theorem exec_release_of_two_readers (h : s.LiveSlot i p) (hr : 2 ≤ p.readers) :
    exec (.release (some i)) s = .next (setSlot i { p with readers := p.readers - 1 } { s with ret := none }) :=
  (operation_of_live h.notHalted).trans (congrArg _ (release_of_two_readers (liveSlot_ret h none) hr))

theorem operation_of_badHandle {h : Handle} (hf : s.fatal = false) (hb : s.badHandle h)
    (f : Nat → Slot → State → State) :
    operation (withSlot h f) s = .next (raiseFatal .contract { s with ret := none }) :=
  (operation_of_live hf).trans (congrArg _ (withSlot_of_badHandle (s := { s with ret := none }) hb f))

/-! ### Runs of one instruction -/

theorem execAll_append (l₁ l₂ : List Instr) (s : State) :
    execAll (l₁ ++ l₂) s = (execAll l₁ s).bind (execAll l₂) := by
  induction l₁ generalizing s with
  | nil => rfl
  | cons j rest ih =>
    simp only [List.cons_append, execAll]
    cases exec j s with
    | next t => exact ih t
    | fault | refused => rfl

theorem execAll_cons_of_next {j : Instr} {rest : List Instr} {t : State} (hx : exec j s = .next t) :
    execAll (j :: rest) s = execAll rest t := by
  simp only [execAll, hx]

/-- `n` times `AddReader` (R133). -/
theorem execAll_addReader (n : Nat) (h : s.LiveSlot i p) :
    ∃ t, execAll (List.replicate n (.addReader (some i))) s = some t ∧
      t.LiveSlot i { p with readers := p.readers + n } := by
  induction n generalizing s p with
  | zero => exact ⟨s, rfl, h⟩
  | succ n ih =>
    obtain ⟨t, ht, hlive⟩ :=
      ih (setSlot_liveSlot (q := { p with readers := p.readers + 1 }) (liveSlot_ret h none) h.inUse)
    refine ⟨t, ?_, by rwa [Nat.add_comm n 1, ← Nat.add_assoc]⟩
    rw [List.replicate_succ, execAll_cons_of_next (exec_addReader_of_liveSlot h), ht]

/-- Fewer releases than there are readers (R134). -/
theorem execAll_release (k : Nat) (h : s.LiveSlot i p) (hk : k < p.readers) :
    ∃ t, execAll (List.replicate k (.release (some i))) s = some t ∧
      t.LiveSlot i { p with readers := p.readers - k } := by
  induction k generalizing s p with
  | zero => exact ⟨s, rfl, h⟩
  | succ k ih =>
    obtain ⟨t, ht, hlive⟩ :=
      ih (setSlot_liveSlot (q := { p with readers := p.readers - 1 }) (liveSlot_ret h none) h.inUse)
        (by simp only; omega)
    refine ⟨t, ?_, by rwa [Nat.add_comm k 1, ← Nat.sub_sub]⟩
    rw [List.replicate_succ, execAll_cons_of_next (exec_release_of_two_readers h (by omega)), ht]

/-- As many releases as there are readers free the slot and leave what it held (R134). -/
theorem execAll_release_all (h : s.LiveSlot i p) {k : Nat} (hk : p.readers = k + 1) :
    ∃ t, execAll (List.replicate (k + 1) (.release (some i))) s = some t ∧ t.fatal = false ∧
      t.pool[i]? = some { p with readers := 0, inUse := false } := by
  obtain ⟨t, ht, hlive⟩ := execAll_release k h (by omega)
  have hfree := exec_release_of_last_reader hlive (by simp only; omega)
  refine ⟨setSlot i { p with readers := 0, inUse := false } { t with ret := none }, ?_, hlive.notHalted,
    setSlot_getElem? (liveSlot_ret hlive none).getSlot⟩
  rw [List.replicate_succ', execAll_append, ht, Option.bind_some, execAll_cons_of_next hfree]
  rfl

end Sys2Proof.Machine
end

section
/-! The calls to the sinks (40_buffer_fanout.md R135 to R137) and the environment's answers (00_scope.md R10). -/

namespace Sys2Proof.Machine

variable {s : State} {i : Nat} {p : Slot}

/-! ### The answers -/

/-- The answer to the next call: the script's, and beyond its end that of the free values (00_scope.md R10). -/
def State.nextAnswer (s : State) : Reply :=
  s.replies.headD
    { success := Config.sinkAnswer s.sinkTick
      acts := if Config.sinkReleases s.sinkTick then [.releaseGiven] else [] }

theorem nextReply_accept (i : Nat) (s : State) : nextReply (some i) s = (s.nextAnswer, s.answered 1) := by
  unfold nextReply State.nextAnswer State.answered
  cases s.replies <;> simp

theorem answers_zero (s : State) : s.answers 0 = [] := by simp [State.answers]

theorem answered_zero (s : State) : s.answered 0 = s := by simp [State.answered]

theorem answers_succ (n : Nat) (s : State) : s.answers (n + 1) = s.nextAnswer :: (s.answered 1).answers n := by
  unfold State.answers State.nextAnswer State.answered
  cases hr : s.replies with
  | nil => simp [List.range_succ_eq_map, Nat.add_assoc, Nat.add_comm 1]
  | cons r rest => simp

theorem answered_succ (n : Nat) (s : State) : s.answered (n + 1) = (s.answered 1).answered n := by
  unfold State.answered
  cases hr : s.replies with
  | nil => simp [Nat.add_assoc, Nat.add_comm 1]
  | cons r rest => simp

theorem allSucceed_cons (r : Reply) (rs : List Reply) : allSucceed (r :: rs) = (r.success && allSucceed rs) := rfl

theorem releasesIn_cons (r : Reply) (rs : List Reply) :
    releasesIn (r :: rs) = releasesIn [r] + releasesIn rs := by
  simp [releasesIn, List.countP_cons, Nat.add_comm]

theorem nextAnswer_acts (hd : s.dutifulSinks) :
    s.nextAnswer.acts = [] ∨ s.nextAnswer.acts = [.releaseGiven] := by
  unfold State.nextAnswer
  cases hr : s.replies with
  | nil => cases Config.sinkReleases s.sinkTick <;> simp
  | cons r rest => exact hd r (by simp [hr])

/-- A `terminate` takes the next answer as an `accept` does, and a dutiful sink has no more in it than a release. -/
theorem nextReply_terminate (hd : s.dutifulSinks) :
    ∃ r, nextReply none s = (r, s.answered 1) ∧ r.success = s.nextAnswer.success ∧
      (r.acts = [] ∨ r.acts = [.releaseGiven]) := by
  unfold nextReply State.nextAnswer State.answered
  cases hr : s.replies with
  | nil => exact ⟨{ success := Config.sinkAnswer s.sinkTick, acts := [] }, by simp, rfl, .inl rfl⟩
  | cons r rest => exact ⟨r, by simp, rfl, hd r (by simp [hr])⟩

/-! ### The state after a row of calls -/

/-- The state after `n` calls on the downstream channel: `calls` is what they were, and `n` answers are used up. -/
def State.afterCalls (n : Nat) (calls : List SinkCall) (s : State) : State :=
  { s.answered n with sinkCalls := s.sinkCalls ++ calls }

theorem afterCalls_zero (s : State) : s.afterCalls 0 [] = s := by simp [State.afterCalls, answered_zero]

theorem afterCalls_succ (n : Nat) (c : SinkCall) (calls : List SinkCall) (s : State) :
    s.afterCalls (n + 1) (c :: calls) = (s.afterCalls 1 [c]).afterCalls n calls := by
  unfold State.afterCalls
  rw [answered_succ]
  simp [State.answered]

/-- The answers come from the script and the free values alone. -/
theorem answers_afterCalls (m n : Nat) (calls : List SinkCall) (s : State) :
    (s.afterCalls m calls).answers n = (s.answered m).answers n := rfl

theorem answers_setSlot (n i : Nat) (p : Slot) (s : State) : (setSlot i p s).answers n = s.answers n := rfl

theorem afterCalls_setSlot (n i : Nat) (p : Slot) (calls : List SinkCall) (s : State) :
    (setSlot i p s).afterCalls n calls = setSlot i p (s.afterCalls n calls) := rfl

theorem afterCalls_liveSlot (n : Nat) (calls : List SinkCall) (h : s.LiveSlot i p) :
    (s.afterCalls n calls).LiveSlot i p := h

theorem dutifulSinks_answered (n : Nat) (hd : s.dutifulSinks) : (s.answered n).dutifulSinks :=
  fun r hr => hd r (List.mem_of_mem_drop hr)

/-! ### One call -/

/-- A dutiful sink does nothing at a `terminate`, which gives it no buffer. -/
theorem sinkActs_none {acts : List SinkAct} (ha : acts = [] ∨ acts = [.releaseGiven]) (s : State) :
    sinkActs none acts s = s := by
  obtain rfl | rfl := ha
  · rfl
  · exact andThen_induct (P := (· = s)) rfl fun _ h => h

/-- A dutiful sink releases the buffer it is given at most once (R135). -/
theorem sinkActs_of_liveSlot {r : Reply} (ha : r.acts = [] ∨ r.acts = [.releaseGiven]) (h : s.LiveSlot i p)
    (hr : 2 ≤ p.readers) :
    sinkActs (some i) r.acts s = setSlot i { p with readers := p.readers - releasesIn [r] } s := by
  obtain ha | ha := ha
  · have hnone : releasesIn [r] = 0 := by simp [releasesIn, ha]
    rw [ha, hnone]
    exact (setSlot_of_getElem? h.getSlot).symm
  · have hone : releasesIn [r] = 1 := by simp [releasesIn, ha]
    have hrel := release_of_two_readers h hr
    rw [ha, hone, ← hrel]
    exact andThen_induct (P := (· = release (some i) s)) rfl fun _ h => h

theorem sinkAccept_of_liveSlot (k : Nat) (e : SinkEntry) (h : s.LiveSlot i p) (hr : 2 ≤ p.readers)
    (hd : s.dutifulSinks) :
    sinkAccept k e i s =
      (s.nextAnswer.success,
        setSlot i { p with readers := p.readers - releasesIn [s.nextAnswer] }
          (s.afterCalls 1 [.accept k e.sink i p.ts p.data])) := by
  have hslot : (s.pool[i]?).getD Slot.free = p := by rw [h.getSlot, Option.getD_some]
  simp only [sinkAccept, hslot, nextReply_accept]
  exact Prod.ext rfl (sinkActs_of_liveSlot (nextAnswer_acts hd) h hr)

theorem sinkTerminate_of_dutiful (k : Nat) (e : SinkEntry) (hd : s.dutifulSinks) :
    sinkTerminate k e s = (s.nextAnswer.success, s.afterCalls 1 [.terminate k e.sink]) := by
  obtain ⟨r, hreply, hsuccess, hacts⟩ :=
    nextReply_terminate (s := { s with sinkCalls := s.sinkCalls ++ [.terminate k e.sink] }) hd
  simp only [sinkTerminate, hreply, sinkActs_none hacts]
  exact Prod.ext hsuccess rfl

/-! ### The calls to every sink -/

theorem callSinks_cons_of_live {call : Nat → SinkEntry → State → Bool × State} (hf : s.fatal = false) (k : Nat)
    (e : SinkEntry) (rest : List SinkEntry) (result : Bool) :
    callSinks call k (e :: rest) result s =
      callSinks call (k + 1) rest (result && (call k e s).1) (call k e s).2 := by
  simp [callSinks, hf]

/-- The calls of a Dispatch, each sink holding a reference and the producer one more (R136). -/
theorem callSinks_accept (sinks : List SinkEntry) (k : Nat) (result : Bool) (h : s.LiveSlot i p)
    (hr : sinks.length + 1 ≤ p.readers) (hd : s.dutifulSinks) :
    callSinks (fun k e => sinkAccept k e i) k sinks result s =
      (result && allSucceed (s.answers sinks.length),
        setSlot i { p with readers := p.readers - releasesIn (s.answers sinks.length) }
          (s.afterCalls sinks.length ((sinks.zipIdx k).map fun e => .accept e.2 e.1.sink i p.ts p.data))) := by
  induction sinks generalizing k result s p with
  | nil =>
    have hslot : setSlot i p s = s := setSlot_of_getElem? h.getSlot
    simp [callSinks, answers_zero, afterCalls_zero, allSucceed, releasesIn, hslot]
  | cons e rest ih =>
    rw [List.length_cons] at hr
    have hone : releasesIn [s.nextAnswer] ≤ 1 := List.countP_le_length
    have hlive := setSlot_liveSlot (q := { p with readers := p.readers - releasesIn [s.nextAnswer] })
      (afterCalls_liveSlot 1 [.accept k e.sink i p.ts p.data] h) h.inUse
    rw [callSinks_cons_of_live h.notHalted, sinkAccept_of_liveSlot k e h (by omega) hd,
      ih (k + 1) _ hlive (by simp only; omega) (dutifulSinks_answered 1 hd),
      answers_setSlot, answers_afterCalls, afterCalls_setSlot, setSlot_setSlot,
      List.length_cons, answers_succ, allSucceed_cons, releasesIn_cons _ (State.answers _ _),
      List.zipIdx_cons, List.map_cons, afterCalls_succ rest.length, Bool.and_assoc, Nat.sub_sub]

/-- The calls of a Shutdown (R137). -/
theorem callSinks_terminate (sinks : List SinkEntry) (k : Nat) (result : Bool) (hf : s.fatal = false)
    (hd : s.dutifulSinks) :
    callSinks sinkTerminate k sinks result s =
      (result && allSucceed (s.answers sinks.length),
        s.afterCalls sinks.length ((sinks.zipIdx k).map fun e => .terminate e.2 e.1.sink)) := by
  induction sinks generalizing k result s with
  | nil => simp [callSinks, answers_zero, afterCalls_zero, allSucceed]
  | cons e rest ih =>
    have hlive : (s.afterCalls 1 [.terminate k e.sink]).fatal = false := hf
    rw [callSinks_cons_of_live hf, sinkTerminate_of_dutiful k e hd,
      ih (k + 1) _ hlive (dutifulSinks_answered 1 hd),
      answers_afterCalls, List.length_cons, answers_succ, allSucceed_cons,
      List.zipIdx_cons, List.map_cons, afterCalls_succ rest.length, Bool.and_assoc]

/-! ### Dispatch and Shutdown -/

/-- Dispatch to sinks that keep their duty (R136): the increments give every sink a reference of its own, so that
the releases leave the producer's and the slot stays in use throughout. -/
theorem dispatch_of_liveSlot (h : s.LiveSlot i p) (hr : 1 ≤ p.readers) (hsinks : s.sinks ≠ [])
    (hd : s.dutifulSinks) :
    dispatch (some i) s =
      (allSucceed (s.answers s.sinks.length),
        setSlot i { p with readers := p.readers + s.sinks.length - releasesIn (s.answers s.sinks.length) }
          (s.afterCalls s.sinks.length (acceptCalls s.sinks i p.ts p.data))) := by
  have hlive := setSlot_liveSlot (q := { p with readers := p.readers + s.sinks.length }) h h.inUse
  have hempty : ¬ s.sinks.isEmpty = true := by rwa [List.isEmpty_iff]
  simp only [dispatch, slotOf_of_liveSlot h, if_neg hempty]
  rw [addReaders_of_liveSlot s.sinks.length h, callSinks_accept s.sinks 0 true hlive (by simp only; omega) hd,
    answers_setSlot, afterCalls_setSlot, setSlot_setSlot, Bool.true_and, acceptCalls]

theorem dispatch_of_no_sinks (h : s.LiveSlot i p) (hsinks : s.sinks = []) :
    dispatch (some i) s = (false, raise .noSinks s) := by
  simp [dispatch, slotOf_of_liveSlot h, hsinks]

theorem dispatch_of_badHandle {h : Handle} (hb : s.badHandle h) : dispatch h s = (false, raiseFatal .contract s) := by
  simp only [dispatch, slotOf_of_badHandle hb]

/-- A Dispatch that does not halt the machine returns its result. -/
theorem exec_dispatch_of_live {h : Handle} {r : Bool} {t : State} (hf : s.fatal = false)
    (hx : dispatch h { s with ret := none } = (r, t)) (ht : t.fatal = false) :
    exec (.dispatch h) s = .next { t with ret := some (.bool r) } :=
  exec_dispatch_eq_next.2 ⟨hf, by rw [hx, andThen_of_live ht]⟩

theorem exec_dispatch_of_badHandle {h : Handle} (hf : s.fatal = false) (hb : s.badHandle h) :
    exec (.dispatch h) s = .next (raiseFatal .contract { s with ret := none }) := by
  have hx := dispatch_of_badHandle (s := { s with ret := none }) hb
  exact exec_dispatch_eq_next.2 ⟨hf, by rw [hx, andThen_of_halted rfl]⟩

theorem shutdown_of_dutiful (hf : s.fatal = false) (hd : s.dutifulSinks) :
    shutdown s =
      (allSucceed (s.answers s.sinks.length), s.afterCalls s.sinks.length (terminateCalls s.sinks)) := by
  rw [shutdown, callSinks_terminate s.sinks 0 true hf hd, Bool.true_and, terminateCalls]

theorem exec_shutdown_of_live {r : Bool} {t : State} (hf : s.fatal = false)
    (hx : shutdown { s with ret := none } = (r, t)) (ht : t.fatal = false) :
    exec .shutdown s = .next { t with ret := some (.bool r) } :=
  exec_shutdown_eq_next.2 ⟨hf, by rw [hx, andThen_of_live ht]⟩

end Sys2Proof.Machine
end

section
/-! The statements of 40_buffer_fanout.md. -/

namespace Sys2Proof.Machine

/-- Settles O51: the increments give every sink a reference of its own, so that the slot stays in use through all
the calls (`dispatch_of_liveSlot`). -/
theorem dispatchCallsEverySink : Obligations.DispatchCallsEverySink := by
  intro s i p h hr hsinks hd
  have hx := dispatch_of_liveSlot (liveSlot_ret h none) hr hsinks hd
  have hnext := exec_dispatch_of_live h.notHalted hx h.notHalted
  exact hnext

/-- Settles O49: the additions and the releases up to the last but one keep the slot in use, the last release frees
it, and the next one finds a bad handle. -/
theorem bufferLifecycle : Obligations.BufferLifecycle := by
  intro s i n p h hp
  obtain ⟨u, hu, hulive⟩ := execAll_addReader n h
  have hreaders : p.readers + n = n + 1 := by omega
  obtain ⟨t, ht, htf, htp⟩ := execAll_release_all hulive hreaders
  refine ⟨fun k hk => ?releases, ?tooMany⟩
  case releases =>
    simp only [execAll_append, hu, Option.bind_some]
    obtain hlt | rfl : k ≤ n ∨ k = n + 1 := by omega
    · obtain ⟨v, hv, hvlive⟩ := execAll_release k hulive (by simp only; omega)
      exact ⟨v, _, hv, hvlive.notHalted, hvlive.getSlot, by simp only; omega, iff_of_true hvlive.inUse hlt, rfl, rfl⟩
    · exact ⟨t, _, ht, htf, htp, by simp only; omega, by simp, rfl, rfl⟩
  case tooMany =>
    have hbad : exec (.release (some i)) t = .next (raiseFatal .contract { t with ret := none }) :=
      operation_of_badHandle htf (badHandle_of_not_inUse htp rfl) _
    refine ⟨_, ?_, raiseFatal_fatal .contract { t with ret := none }, rfl⟩
    rw [List.replicate_succ', ← List.append_assoc, execAll_append, execAll_append, hu, Option.bind_some, ht,
      Option.bind_some, execAll_cons_of_next hbad]
    rfl

/-- Settles O52, by induction on the registry (`callSinks_terminate`). -/
theorem shutdownCallsEverySink : Obligations.ShutdownCallsEverySink := by
  intro s hf hd
  have hx := shutdown_of_dutiful (s := { s with ret := none }) hf hd
  have hnext := exec_shutdown_of_live hf hx hf
  exact hnext

/-- Settles O45: which of the two outcomes of `allocate_cases` it is depends on whether there is a free slot. -/
theorem allocateTakesFreeSlot : Obligations.AllocateTakesFreeSlot := by
  intro s type capacity hf
  obtain ⟨hall, heq⟩ | ⟨i, q, hq, hfree, heq⟩ := allocate_cases type capacity { s with ret := none }
  · refine ⟨fun _ => exec_allocate_eq_next.2 ⟨hf, by rw [heq]; rfl⟩, fun ⟨p, hp, hfree⟩ => ?_⟩
    exact absurd (hall p hp) (by simp [hfree])
  · refine ⟨fun hall => ?_, fun _ => ⟨i, q, hq, hfree, exec_allocate_eq_next.2 ⟨hf, by rw [heq]; rfl⟩⟩⟩
    exact absurd (hall q (List.mem_of_getElem? hq)) (by simp [hfree])

/-- Settles O46: on a slot in use the check of R130 passes, and each operation has its one write (R132). -/
theorem bufferWrites : Obligations.BufferWrites := by
  intro s i p v ts h
  have hlive := liveSlot_ret h none
  refine ⟨fun hn => ?full, fun hn => ?room, ?timestamp⟩
  case full => exact (operation_of_live h.notHalted).trans (congrArg _ (append_of_full hlive hn v))
  case room => exact (operation_of_live h.notHalted).trans (congrArg _ (append_of_room hlive hn v))
  case timestamp => exact (operation_of_live h.notHalted).trans (congrArg _ (setTimestamp_of_liveSlot hlive ts))

/-- Settles O47, by the number of readers left: none, one, at least two (R133, R134). -/
theorem readerCount : Obligations.ReaderCount := by
  intro s i p h
  refine ⟨exec_addReader_of_liveSlot h, fun hr => ?_, exec_release_of_last_reader h, exec_release_of_two_readers h⟩
  exact (operation_of_live h.notHalted).trans (congrArg _ (release_of_no_reader (liveSlot_ret h none) hr))

/-- Settles O48: the check of R130 comes first in each of the five operations (`withSlot_of_badHandle`). -/
theorem badHandleIsFatal : Obligations.BadHandleIsFatal := by
  intro s h v ts hf hb
  have hcheck := operation_of_badHandle hf hb
  exact ⟨hcheck _, hcheck _, hcheck _, hcheck _, exec_dispatch_of_badHandle hf hb⟩

/-- Settles O50: the empty registry is tested before any increment (R136 (c)). -/
theorem dispatchToNoSinks : Obligations.DispatchToNoSinks := by
  intro s i p h hsinks
  have hnext := exec_dispatch_of_live h.notHalted (dispatch_of_no_sinks (liveSlot_ret h none) hsinks) h.notHalted
  exact hnext

/-- Settles O53, along the two checks of R138 in their order. -/
theorem registerSinkCases : Obligations.RegisterSinkCases := by
  intro s sink hf hp
  refine ⟨fun type htype => ?wrongType, fun hfull => ?full, fun hroom => ?room⟩
  case wrongType => exact hostOperation_eq_next.2 ⟨hf, hp, by rw [registerSink, if_pos htype]; rfl⟩
  case full => exact hostOperation_eq_next.2 ⟨hf, hp, by rw [registerSink, if_neg (by simp), if_pos hfull]⟩
  case room => exact hostOperation_eq_next.2 ⟨hf, hp, by rw [registerSink, if_neg (by simp), if_neg hroom]⟩

end Sys2Proof.Machine
end

section
/-! What each construct and each part of a Flush does (41_packet_assembler.md R161 to R169). -/

namespace Sys2Proof.Machine

variable {s t u : State}

/-! ### Appending to PKT -/

/-- The bytes one after the other from address `a` on. -/
def Memory.writeAll (m : Memory) (a : Nat) : List Byte → Memory
  | [] => m
  | b :: rest => (m.write a b).writeAll (a + 1) rest

theorem Memory.writeAll_append (m : Memory) (a : Nat) (bs cs : List Byte) :
    m.writeAll a (bs ++ cs) = (m.writeAll a bs).writeAll (a + bs.length) cs := by
  induction bs generalizing m a with
  | nil => rfl
  | cons b rest ih =>
    rw [List.cons_append, writeAll, ih, List.length_cons, Nat.add_right_comm, Nat.add_assoc a]
    rfl

theorem Memory.writeAll_wf {m : Memory} (a : Nat) (bs : List Byte) (hw : m.wf = true) :
    (m.writeAll a bs).wf = true := by
  induction bs generalizing m a with
  | nil => exact hw
  | cons b rest ih => exact ih _ (Memory.write_wf a b hw)

/-- Outside the addresses written every byte reads as before. -/
theorem Memory.read_writeAll_outside {m : Memory} {a k : Nat} {bs : List Byte} (hw : m.wf = true)
    (ha : a + bs.length ≤ Config.maxPkt) (hk : k < a ∨ a + bs.length ≤ k) :
    (m.writeAll a bs).read k = m.read k := by
  induction bs generalizing m a with
  | nil => rfl
  | cons b rest ih =>
    rw [List.length_cons] at ha hk
    rw [writeAll, ih (Memory.write_wf a b hw) (by omega) (by omega), Memory.read_write hw (by omega),
      if_neg (by omega)]

/-- The bytes written read back in order. -/
theorem Memory.read_writeAll {m : Memory} {a k : Nat} {bs : List Byte} (hw : m.wf = true)
    (ha : a + bs.length ≤ Config.maxPkt) (hk : k < bs.length) :
    (m.writeAll a bs).read (a + k) = bs[k] := by
  induction bs generalizing m a k with
  | nil => simp at hk
  | cons b rest ih =>
    rw [List.length_cons] at ha hk
    cases k with
    | zero =>
      rw [writeAll, Memory.read_writeAll_outside (Memory.write_wf a b hw) (by omega) (by omega),
        Memory.read_write hw (by omega)]
      simp
    | succ k =>
      have hrest := ih (Memory.write_wf a b hw) (by omega : a + 1 + rest.length ≤ _) (k := k) (by omega)
      rw [writeAll, List.getElem_cons_succ, ← hrest, Nat.add_right_comm, Nat.add_assoc a]

/-- The bytes appended at `pkt.len` (20_memory.md R67). -/
def appendBytes (bs : List Byte) (s : State) : State :=
  { s with pktBuf := s.pktBuf.writeAll s.pktLen.val bs, pktLen := cursor (s.pktLen.val + bs.length) }

theorem appendPair_eq_appendBytes (b0 b1 : Byte) : appendPair b0 b1 = appendBytes [b0, b1] := rfl

theorem appendBytes_nil (s : State) : appendBytes [] s = s := by
  have hlen : cursor s.pktLen.val = s.pktLen := Fin.ext (cursor_val_of_le (by omega))
  simp [appendBytes, Memory.writeAll, hlen]

theorem appendBytes_append {bs : List Byte} (cs : List Byte) (h : s.pktLen.val + bs.length ≤ 128) :
    appendBytes (bs ++ cs) s = appendBytes cs (appendBytes bs s) := by
  have hlen : (cursor (s.pktLen.val + bs.length)).val = s.pktLen.val + bs.length := cursor_val_of_le h
  simp only [appendBytes, Memory.writeAll_append, hlen, List.length_append, Nat.add_assoc]

theorem appendBytes_pktLen {bs : List Byte} (h : s.pktLen.val + bs.length ≤ 128) :
    (appendBytes bs s).pktLen.val = s.pktLen.val + bs.length := cursor_val_of_le h

theorem pktByte_appendBytes_outside {bs : List Byte} {a : Nat} (hw : s.pktBuf.wf = true)
    (h : s.pktLen.val + bs.length ≤ 128) (ha : a < s.pktLen.val ∨ s.pktLen.val + bs.length ≤ a) :
    pktByte (appendBytes bs s) a = pktByte s a :=
  Memory.read_writeAll_outside hw h ha

theorem pktByte_appendBytes {bs : List Byte} {k : Nat} (hw : s.pktBuf.wf = true)
    (h : s.pktLen.val + bs.length ≤ 128) (hk : k < bs.length) :
    pktByte (appendBytes bs s) (s.pktLen.val + k) = bs[k] :=
  Memory.read_writeAll hw h hk

theorem pktBytes_appendBytes {bs : List Byte} (hw : s.pktBuf.wf = true) (h : s.pktLen.val + bs.length ≤ 128) :
    pktBytes (appendBytes bs s) s.pktLen.val (appendBytes bs s).pktLen.val = bs := by
  rw [appendBytes_pktLen h]
  refine List.ext_getElem (by simp) fun k hk hk' => ?_
  simp [pktBytes, pktByte_appendBytes hw h hk']

/-! ### The constructs -/

/-- Where its two bytes fit, PD appends them (R162). -/
theorem packetData_of_fits {b0 b1 : Byte} (h : s.pktLen.val + 2 ≤ 128) :
    packetData b0 b1 s = appendBytes [b0, b1] s :=
  (if_neg (Nat.not_lt.2 h)).trans (congrFun (appendPair_eq_appendBytes b0 b1) s)

/-- Where they do not, it raises the event and appends neither (R162). -/
theorem packetData_of_overflow {b0 b1 : Byte} (h : 128 < s.pktLen.val + 2) :
    packetData b0 b1 s = raise (.pktOverflow b0 b1) s :=
  if_pos h

/-! ### The parts of a Flush -/

/-- A Flush that finds nothing assembled (R166, R167). -/
theorem flush_of_empty (h : s.pktLen.val = 0) : flush s = s.afterEmptyFlush := by
  rw [flush, if_pos h, zeroLength]
  unfold State.afterEmptyFlush
  cases s.firstFlushDone <;> rfl

/-- A Flush of a packet (R166). -/
theorem flush_of_packet (h : s.pktLen.val ≠ 0) :
    flush s = (parseBlocks (packetHeader (field (pktByte s 0) 6 2) (field (pktByte s 0) 0 6)
      { s with phase := .header })).andThen endFlush :=
  if_neg h

/-- A Flush leaves an empty packet (R166). -/
theorem flush_pktLen (hf : (flush s).fatal = false) : (flush s).pktLen = 0 := by
  by_cases h : s.pktLen.val = 0
  · rw [flush, if_pos h]
    rfl
  · rw [flush_of_packet h] at hf ⊢
    obtain ⟨-, heq⟩ := andThen_live hf
    rw [heq]
    rfl

/-- The sequence check (R168): the event where a number was known and the one seen is not its successor. -/
theorem seqCheck_eq (seq : BitVec 2) (s : State) :
    seqCheck seq s =
      { (if s.lastSeqValid = true ∧ seq ≠ s.lastSeq + 1 then raise (.seqDiscontinuity (s.lastSeq + 1) seq) s
          else s) with lastSeq := seq, lastSeqValid := true } := by
  simp [seqCheck, nextSeq]

theorem seqCheck_pktLen (seq : BitVec 2) (s : State) : (seqCheck seq s).pktLen = s.pktLen := by
  rw [seqCheck_eq]
  split <;> rfl

/-! ### A Flush of nothing -/

/-- Nothing is assembled on a machine that is not halted. -/
abbrev State.LiveEmpty (s : State) : Prop := s.fatal = false ∧ s.pktLen.val = 0

theorem exec_flush_of_empty (h : s.LiveEmpty) : exec .flush s = .next s.afterEmptyFlush :=
  (live_of_live h.1).trans (congrArg _ (flush_of_empty h.2))

theorem afterEmptyFlush_liveEmpty (h : s.LiveEmpty) : s.afterEmptyFlush.LiveEmpty := by
  refine ⟨Eq.trans ?_ h.1, rfl⟩
  unfold State.afterEmptyFlush
  split <;> rfl

theorem afterEmptyFlush_first (h : s.firstFlushDone = false) :
    s.afterEmptyFlush = { s with firstFlushDone := true, pktLen := 0, phase := phaseAfterFlush s } := by
  simp [State.afterEmptyFlush, h]

theorem afterEmptyFlush_later (h : s.firstFlushDone = true) :
    s.afterEmptyFlush =
      { raise .zeroLenPkt s with
        zeroLenLogged := true, firstFlushDone := true, pktLen := 0, phase := phaseAfterFlush s } := by
  simp [State.afterEmptyFlush, h]

/-- The record is verbose where none was made before (R167). -/
theorem afterEmptyFlush_later_diag (h : s.firstFlushDone = true) :
    s.afterEmptyFlush.diag = s.diag ++ [.event (!s.zeroLenLogged) .zeroLenPkt] := by
  rw [afterEmptyFlush_later h]
  rfl

theorem afterEmptyFlush_later_occurrences (h : s.firstFlushDone = true) :
    occurrencesOf s.afterEmptyFlush 1 = occurrencesOf s 1 + 1 := by
  rw [afterEmptyFlush_later h]
  simp [occurrencesOf, Event.code]

/-- The records of later Flushes of nothing, once one has been reported: none is verbose (R167 (b)). -/
theorem execAll_flush_of_empty (n : Nat) (h : s.LiveEmpty) (hdone : s.firstFlushDone = true)
    (hlogged : s.zeroLenLogged = true) :
    ∃ v, execAll (List.replicate n .flush) s = some v ∧
      v.diag = s.diag ++ List.replicate n (.event false .zeroLenPkt) ∧
      occurrencesOf v 1 = occurrencesOf s 1 + n := by
  induction n generalizing s with
  | zero => exact ⟨s, rfl, by simp, rfl⟩
  | succ n ih =>
    have hlater := afterEmptyFlush_later hdone
    obtain ⟨v, hv, hdiag, hcount⟩ := ih (afterEmptyFlush_liveEmpty h) (by rw [hlater]) (by rw [hlater])
    refine ⟨v, ?_, ?_, ?_⟩
    · rw [List.replicate_succ, execAll_cons_of_next (exec_flush_of_empty h), hv]
    · rw [hdiag, afterEmptyFlush_later_diag hdone, hlogged, List.replicate_succ, List.append_assoc]
      rfl
    · rw [hcount, afterEmptyFlush_later_occurrences hdone, Nat.add_assoc, Nat.add_comm 1]

/-! ### The contract of the upstream channel -/

/-- After `Terminate` an `Accept` is `F_CONTRACT` (R160). -/
theorem acceptBuffer_of_terminated (h : Handle) (ht : s.terminated = true) :
    acceptBuffer h s = raiseFatal .contract s := by
  rw [acceptBuffer, enterAccept, if_pos ht, andThen_of_halted (raiseFatal_fatal ..)]

/-- So is an `Accept` of anything but a buffer of whole constructs (R160). -/
theorem acceptBuffer_of_bad {h : Handle} (ht : s.terminated = false)
    (hbad : s.badHandle h ∨
      ∃ i p, h = some i ∧ s.pool[i]? = some p ∧ (p.type ≠ .rawCc ∨ p.numElements % 3 ≠ 0)) :
    acceptBuffer h s = raiseFatal .contract s := by
  suffices henter : enterAccept h s = raiseFatal .contract s by
    rw [acceptBuffer, henter, andThen_of_halted (raiseFatal_fatal ..)]
  rw [enterAccept, if_neg (by simp [ht])]
  split
  · rfl
  · next i p hslot =>
    obtain ⟨rfl, hp, huse⟩ := slotOf_eq_some.1 hslot
    obtain hbad | ⟨j, q, hj, hq, hcheck⟩ := hbad
    · exact absurd huse (by simp [hbad p hp])
    · cases hj
      rw [hp] at hq
      cases hq
      exact if_pos hcheck

/-- After `Terminate` a second one is `F_CONTRACT` (R172). -/
theorem terminate_of_terminated (ht : s.terminated = true) : terminate s = raiseFatal .contract s := by
  rw [terminate, enterTerminate, if_pos ht, andThen_of_halted (raiseFatal_fatal ..),
    andThen_of_halted (raiseFatal_fatal ..)]

theorem hostOperation_of_host {f : State → State} (hf : s.fatal = false) (hp : s.phase = .host) :
    hostOperation f s = .next (f { s with ret := none }) :=
  hostOperation_eq_next.2 ⟨hf, hp, rfl⟩

/-- A call from inside an operation is refused (70_reset_and_hazards.md R413, log 14). -/
theorem hostOperation_of_inside {f : State → State} (hf : s.fatal = false) (hp : s.phase ≠ .host) :
    hostOperation f s = .refused .reentrant := by
  simp [hostOperation, hf, hp]

end Sys2Proof.Machine
end

section
/-! The statements of 41_packet_assembler.md on the constructs, the Flush and the contract of the channel. -/

namespace Sys2Proof.Machine

/-- Settles O16: both bytes fit or neither does. -/
theorem packetDataAppends : Obligations.PacketDataAppends := by
  refine ⟨fun s b0 b1 hf hw hlen => ?fits, fun s b0 b1 hf hlen => ?overflow⟩
  case fits =>
    have hread {k : Nat} (hk : k < [b0, b1].length) := pktByte_appendBytes hw (bs := [b0, b1]) hlen hk
    refine ⟨appendBytes [b0, b1] s, ?_, appendBytes_pktLen hlen, hread (k := 0) (by simp), hread (k := 1) (by simp),
      fun a h0 h1 => ?_, Memory.writeAll_wf _ _ hw, rfl⟩
    · exact (live_of_live hf).trans (congrArg _ (packetData_of_fits hlen))
    · exact pktByte_appendBytes_outside hw hlen (by simp only [List.length_cons, List.length_nil]; omega)
  case overflow => exact (live_of_live hf).trans (congrArg _ (packetData_of_overflow hlen))

/-- Settles O17: each of the three is the identity on a machine that is not halted. -/
theorem constructsWithoutEffect : Obligations.ConstructsWithoutEffect := by
  intro s v b0 b1 hf
  exact ⟨live_of_live hf, live_of_live hf, live_of_live hf⟩

/-- Settles O18: `PS!` is the Flush; `PS` appends to the empty packet that a Flush leaves (`flush_pktLen`). -/
theorem packetStartFlushes : Obligations.PacketStartFlushes := by
  intro s u b0 b1 hf hx
  obtain ⟨-, rfl⟩ := live_eq_next.1 hx
  refine ⟨live_of_live hf, fun hu => ?halted, fun hu hw => ?live⟩
  case halted => exact (live_of_live hf).trans (congrArg _ (andThen_of_halted hu _))
  case live =>
    have hzero : (flush s).pktLen.val = 0 := by rw [flush_pktLen hu]; rfl
    have hlen : (flush s).pktLen.val + [b0, b1].length ≤ 128 := by simp [hzero]
    have h0 := pktByte_appendBytes (k := 0) hw hlen (by simp)
    have h1 := pktByte_appendBytes (k := 1) hw hlen (by simp)
    have hpktLen := appendBytes_pktLen hlen
    rw [hzero] at h0 h1 hpktLen
    refine ⟨appendBytes [b0, b1] (flush s), ?_, h0, h1, hpktLen, fun a ha => ?_, rfl⟩
    · rw [← appendPair_eq_appendBytes]
      exact (live_of_live hf).trans (congrArg _ (andThen_of_live hu _))
    · exact pktByte_appendBytes_outside hw hlen (.inr (by simpa [hzero] using ha))

/-- Settles O19: a Flush of nothing by `flush_of_empty`, a row of them by induction on its length. -/
theorem flushOfEmptyPacket : Obligations.FlushOfEmptyPacket := by
  refine ⟨fun s b0 b1 hf hlen => ?once, fun s n hf hlen hfirst hlogged => ?row⟩
  case once =>
    refine ⟨exec_flush_of_empty ⟨hf, hlen⟩, exec_flush_of_empty ⟨hf, hlen⟩, (live_of_live hf).trans ?_⟩
    have hlive := (afterEmptyFlush_liveEmpty ⟨hf, hlen⟩).1
    have hbuf : s.afterEmptyFlush.pktBuf = s.pktBuf := by
      unfold State.afterEmptyFlush
      split <;> rfl
    rw [packetStart, flush_of_empty hlen, andThen_of_live hlive, ← hbuf]
    rfl
  case row =>
    have hempty := afterEmptyFlush_liveEmpty ⟨hf, hlen⟩
    have hsilent := afterEmptyFlush_first hfirst
    have hdone : s.afterEmptyFlush.firstFlushDone = true := by rw [hsilent]
    have hlater := afterEmptyFlush_later hdone
    obtain ⟨v, hv, hdiag, hcount⟩ := execAll_flush_of_empty n (afterEmptyFlush_liveEmpty hempty)
      (by rw [hlater]) (by rw [hlater])
    refine ⟨_, _, v, execAll_cons_of_next (exec_flush_of_empty ⟨hf, hlen⟩), by rw [hsilent],
      execAll_cons_of_next (exec_flush_of_empty hempty), ?_, hv, hdiag, ?_⟩
    · rw [afterEmptyFlush_later_diag hdone, hsilent]
      simp only [hlogged, Bool.not_false]
    · rw [hcount, afterEmptyFlush_later_occurrences hdone, hsilent]
      rfl

/-- Settles O20: the two instructions of the hypotheses are the two lines of `flush_of_packet`. -/
theorem flushOfPacket : Obligations.FlushOfPacket := by
  intro s u v hf hlen hu hv
  obtain ⟨-, rfl⟩ := live_eq_next.1 hu
  obtain ⟨-, rfl⟩ := live_eq_next.1 hv
  exact (live_of_live hf).trans (congrArg _ (flush_of_packet hlen))

/-- Settles O21: the two checks in their order. -/
theorem packetHeaderChecks : Obligations.PacketHeaderChecks := by
  intro s seq size hf
  refine (live_of_live hf).trans (congrArg _ ?_)
  rw [packetHeader, lengthCheck, seqCheck_pktLen, seqCheck_eq]
  rfl

/-- Settles O54: the checks of R160 and R172 in their order, behind the refusal of a call from inside an operation. -/
theorem upstreamContract : Obligations.UpstreamContract := by
  intro s h hf
  refine ⟨fun hp ht => ?afterTerminate, fun hp ht hbad => ?badBuffer, fun hp => ?reentrant⟩
  case afterTerminate =>
    exact ⟨(hostOperation_of_host hf hp).trans (congrArg _ (acceptBuffer_of_terminated h ht)),
      (hostOperation_of_host hf hp).trans (congrArg _ (terminate_of_terminated ht))⟩
  case badBuffer => exact (hostOperation_of_host hf hp).trans (congrArg _ (acceptBuffer_of_bad ht hbad))
  case reentrant =>
    exact ⟨hostOperation_of_inside hf hp, hostOperation_of_inside hf hp, fun _ _ => hostOperation_of_inside hf hp⟩

end Sys2Proof.Machine
end

section
/-! What a Flush is made of: lines that leave the upstream call, the buffers and the sinks alone, and whole service
blocks (41_packet_assembler.md R166, 42_service_block_parser.md R190). -/

namespace Sys2Proof.Machine

open Relation (ReflTransGen)

-- One proof at a time: in parallel they need more threads than the memory limit allows.
set_option Elab.async false

variable {s t u : State}

/-! ### The registers of the upstream call -/

/-- What the upstream call owns: its construct cursor, timestamp and result, and the registry (10_state.md R23, R24,
R35, R38). -/
structure CallRegisters where
  cidx : Nat
  curTs : Timestamp
  terminated : Bool
  inProgress : InProgress
  ret : Option RetVal
  sinks : List SinkEntry

/-- Those registers of a state. -/
def State.callRegisters (s : State) : CallRegisters :=
  ⟨s.cidx, s.curTs, s.terminated, s.inProgress, s.ret, s.sinks⟩

theorem SubstrateSteps.callRegisters (h : SubstrateSteps s t) : t.callRegisters = s.callRegisters :=
  (congrArg State.callRegisters h.control :)

theorem DecoderSteps.callRegisters (h : DecoderSteps s t) : t.callRegisters = s.callRegisters :=
  (congrArg State.callRegisters h.frame :)

theorem andThen_callRegisters {f : State → State} (h : t.callRegisters = s.callRegisters)
    (hf : ∀ u, (f u).callRegisters = u.callRegisters) : (t.andThen f).callRegisters = s.callRegisters :=
  andThen_induct (P := fun u => u.callRegisters = s.callRegisters) h fun _ ht => (hf t).trans ht

theorem openBlock_callRegisters (s : State) : (openBlock s).callRegisters = s.callRegisters := by
  unfold openBlock
  dsimp only
  split
  · rfl
  · exact andThen_callRegisters (allocate_steps ..).callRegisters fun _ => (setTimestamp_steps ..).callRegisters

theorem deliver_callRegisters (s : State) : (deliver s).callRegisters = s.callRegisters := by
  rw [deliver_eq]
  exact andThen_callRegisters (dispatch_steps ..).callRegisters fun _ =>
    andThen_callRegisters (release_steps ..).callRegisters fun _ => rfl

theorem closeBlock_callRegisters (s : State) : (closeBlock s).callRegisters = s.callRegisters := by
  refine andThen_callRegisters (andThen_callRegisters (countCheck_steps s).callRegisters fun t => ?_) fun _ => rfl
  split
  · rfl
  · exact deliver_callRegisters t

theorem processBlock_callRegisters (s : State) : (processBlock s).callRegisters = s.callRegisters :=
  andThen_callRegisters
    (andThen_callRegisters (openBlock_callRegisters s) fun _ => (decodeBlock_steps _).callRegisters)
    closeBlock_callRegisters

/-! ### The ledger: the buffers and what passes between the machine and the sinks -/

/-- The buffers, the halt, and everything a delivery counts. -/
structure Ledger where
  fatal : Bool
  ok : Bool
  pool : List Slot
  sinkCalls : List SinkCall
  replies : List Reply
  sinkTick : Nat
  noSinks : Nat

/-- The ledger of a state. -/
def State.ledger (s : State) : Ledger :=
  ⟨s.fatal, s.ok, s.pool, s.sinkCalls, s.replies, s.sinkTick, noSinksEvents s.diag⟩

theorem noSinksEvents_raise {e : Event} (s : State) (he : e ≠ .noSinks) :
    noSinksEvents (raise e s).diag = noSinksEvents s.diag := by
  cases e with
  | noSinks => exact absurd rfl he
  | _ => simp [noSinksEvents]

theorem noSinksEvents_raise_noSinks (s : State) :
    noSinksEvents (raise .noSinks s).diag = noSinksEvents s.diag + 1 := by
  simp [noSinksEvents]

/-- Only `EV_NO_SINKS` is entered in the ledger. -/
theorem raise_ledger (e : Event) (s : State) (he : e ≠ .noSinks := by nofun) : (raise e s).ledger = s.ledger := by
  simp only [State.ledger, noSinksEvents_raise s he]
  rfl

/-! ### The lines of a Flush -/

/-- A line of a Flush, or of a construct around it: one that changes nothing of the ledger or of the upstream call, or a
whole service block. -/
inductive FlushUpdate (s : State) : State → Prop
  | quiet {t : State} (hl : t.ledger = s.ledger) (hc : t.callRegisters = s.callRegisters) : FlushUpdate s t
  | block (hf : s.fatal = false) : FlushUpdate s (processBlock s)

/-- A chain of such lines. -/
abbrev FlushSteps : State → State → Prop := ReflTransGen FlushUpdate

theorem flushSteps_quiet (hl : t.ledger = s.ledger) (hc : t.callRegisters = s.callRegisters) : FlushSteps s t :=
  .single (.quiet hl hc)

theorem flushSteps_raise (e : Event) (s : State) (he : e ≠ .noSinks := by nofun) : FlushSteps s (raise e s) :=
  flushSteps_quiet (raise_ledger e s he) rfl

theorem FlushSteps.block (h : FlushSteps s t) (hf : t.fatal = false) : FlushSteps s (processBlock t) :=
  h.tail (.block hf)

theorem FlushSteps.callRegisters (h : FlushSteps s t) : t.callRegisters = s.callRegisters := by
  induction h with
  | refl => rfl
  | tail _ hu ih =>
    refine Eq.trans ?_ ih
    cases hu with
    | quiet _ hc => exact hc
    | block => exact processBlock_callRegisters _

/-! ### The block loop -/

theorem stopParse_flushSteps (s : State) : FlushSteps s (stopParse s) := flushSteps_quiet rfl rfl

theorem advance_flushSteps (n : Nat) (s : State) : FlushSteps s (advance n s) := flushSteps_quiet rfl rfl

theorem takeBlock_flushSteps (svc : BitVec 6) (size : BitVec 5) (hf : s.fatal = false) :
    FlushSteps s (takeBlock svc size s) := by
  unfold takeBlock
  dsimp only
  split
  · exact FlushSteps.block ((flushSteps_raise (.sbLenMismatch svc size _) s).trans (flushSteps_quiet rfl rfl)) hf
  · exact FlushSteps.block (flushSteps_quiet rfl rfl) hf

theorem abandonPacket_flushSteps (size : BitVec 5) (s : State) : FlushSteps s (abandonPacket size s) :=
  (flushSteps_raise (.svc0 size) s).trans (flushSteps_quiet rfl rfl)

theorem sbExt_flushSteps (size : BitVec 5) (svc : BitVec 6) (hf : s.fatal = false) :
    FlushSteps s (sbExt size svc s) := by
  have hlog : FlushSteps s (if svc.toNat < 7 then raise (.extSvcIllegal svc) (advance 2 s) else advance 2 s) := by
    split
    · exact (advance_flushSteps 2 s).trans (flushSteps_raise _ _)
    · exact advance_flushSteps 2 s
  unfold sbExt
  dsimp only
  split
  · exact hlog.trans (abandonPacket_flushSteps size _)
  · refine hlog.trans (takeBlock_flushSteps svc size ?_)
    split <;> exact hf

theorem parseStep_flushSteps (hf : s.fatal = false) : FlushSteps s (parseStep s) := by
  unfold parseStep
  dsimp only
  split; · exact stopParse_flushSteps s
  split; · exact stopParse_flushSteps s
  split; · exact sbExt_flushSteps _ _ hf
  split; · exact (advance_flushSteps 1 s).trans (abandonPacket_flushSteps _ _)
  exact (advance_flushSteps 1 s).trans (takeBlock_flushSteps _ _ hf)

theorem parseLoop_flushSteps (fuel : Nat) (s : State) : FlushSteps s (parseLoop fuel s) := by
  induction fuel generalizing s with
  | zero => exact steps_andThen .refl (stopParse_flushSteps s)
  | succ fuel ih =>
    unfold parseLoop
    split; · exact .refl
    split
    · next hf _ => exact (parseStep_flushSteps (by simpa using hf)).trans (ih _)
    · exact .refl

theorem parseBlocks_flushSteps (s : State) : FlushSteps s (parseBlocks s) :=
  (flushSteps_quiet rfl rfl : FlushSteps s (enterParse s)).trans (parseLoop_flushSteps _ _)

/-! ### The Flush and the constructs -/

theorem seqCheck_flushSteps (seq : BitVec 2) (s : State) : FlushSteps s (seqCheck seq s) := by
  rw [seqCheck_eq]
  split
  · exact (flushSteps_raise _ s).trans (flushSteps_quiet rfl rfl)
  · exact flushSteps_quiet rfl rfl

theorem lengthCheck_flushSteps (code : BitVec 6) (s : State) : FlushSteps s (lengthCheck code s) := by
  unfold lengthCheck
  split
  · exact .refl
  · exact flushSteps_raise _ s

theorem packetHeader_flushSteps (seq : BitVec 2) (code : BitVec 6) (s : State) :
    FlushSteps s (packetHeader seq code s) :=
  ((flushSteps_quiet rfl rfl : FlushSteps s { s with curSeq := seq }).trans (seqCheck_flushSteps seq _)).trans
    (lengthCheck_flushSteps code _)

theorem afterEmptyFlush_flushSteps (s : State) : FlushSteps s s.afterEmptyFlush := by
  unfold State.afterEmptyFlush
  split
  · exact (flushSteps_raise .zeroLenPkt s).trans (flushSteps_quiet rfl rfl)
  · exact flushSteps_quiet rfl rfl

theorem flush_flushSteps (s : State) : FlushSteps s (flush s) := by
  by_cases h : s.pktLen.val = 0
  · rw [flush_of_empty h]
    exact afterEmptyFlush_flushSteps s
  · rw [flush_of_packet h]
    have hphase : FlushSteps s { s with phase := .header } := flushSteps_quiet rfl rfl
    exact steps_andThen ((hphase.trans (packetHeader_flushSteps _ _ _)).trans (parseBlocks_flushSteps _))
      (flushSteps_quiet rfl rfl)

theorem packetData_flushSteps (b0 b1 : Byte) (s : State) : FlushSteps s (packetData b0 b1 s) := by
  unfold packetData
  split
  · exact flushSteps_raise _ s
  · exact flushSteps_quiet rfl rfl

theorem construct_flushSteps (hdr b0 b1 : Byte) (s : State) : FlushSteps s (construct hdr b0 b1 s) := by
  unfold construct
  split
  · split
    · exact steps_andThen (flush_flushSteps s) (flushSteps_quiet rfl rfl)
    · exact flush_flushSteps s
  split
  · split
    · exact packetData_flushSteps b0 b1 s
    · exact .refl
  · exact .refl

end Sys2Proof.Machine
end

section
/-! The loop of `Accept` one construct at a time, and the lines of `Terminate` (41_packet_assembler.md R160, R172,
10_state.md R24). -/

namespace Sys2Proof.Machine

variable {s t : State} {i : Nat} {p : Slot}

/-! ### The beginning of `Accept` -/

/-- A buffer of whole constructs passes the checks of `Accept` (R160). -/
theorem enterAccept_of_liveSlot (h : s.LiveSlot i p) (ht : s.terminated = false) (hty : p.type = .rawCc)
    (hn : p.numElements % 3 = 0) : enterAccept (some i) s = s.accepting i p := by
  rw [enterAccept, if_neg (by simp [ht])]
  simp only [slotOf_of_liveSlot h, hty, hn, ne_eq, not_true_eq_false, or_self, if_false]
  rfl

/-- Where the checks pass, `Accept` is its loop and its last lines (R160). -/
theorem acceptBuffer_of_enterAccept {h : Handle} (hs : s.fatal = false) (he : enterAccept h s = s.accepting i p) :
    acceptBuffer h s = (acceptLoop i (p.numElements / 3) (s.accepting i p)).andThen (endAccept i) := by
  rw [acceptBuffer, he, andThen_of_live (show (s.accepting i p).fatal = false from hs)]
  rfl

/-! ### The loop, step by step -/

/-- The loop goes on with the next construct unless the machine is halted (R160). -/
theorem acceptLoop_succ_of_live {count : Nat} (h : (constructAt i s).fatal = false) :
    acceptLoop i (count + 1) s = acceptLoop i count (nextConstruct (constructAt i s)) := by
  rw [acceptLoop, andThen_of_live h, andThen_of_live (s := nextConstruct _) h]

theorem acceptLoop_succ_of_halted {count : Nat} (h : (constructAt i s).fatal = true) :
    acceptLoop i (count + 1) s = constructAt i s := by
  rw [acceptLoop, andThen_of_halted h, andThen_of_halted h]

/-- The machine is in the loop of `Accept` of slot `i`, which held `n` elements, with `count` constructs left. -/
structure State.InAccept (i n count : Nat) (s : State) : Prop where
  live : s.fatal = false
  phase : s.phase = .accept
  call : s.inProgress = .accept i n
  left : s.cidx + count = n / 3

theorem construct_cidx (hdr b0 b1 : Byte) (s : State) : (construct hdr b0 b1 s).cidx = s.cidx :=
  (congrArg CallRegisters.cidx (construct_flushSteps hdr b0 b1 s).callRegisters :)

theorem construct_inProgress (hdr b0 b1 : Byte) (s : State) :
    (construct hdr b0 b1 s).inProgress = s.inProgress :=
  (construct_steps hdr b0 b1 s).inProgress

/-- A construct of an `Accept` ends where the loop of the `Accept` goes on (R160, log 13). -/
theorem construct_phase (hdr b0 b1 : Byte) {n : Nat} (hp : s.phase = .accept) (hc : s.inProgress = .accept i n) :
    (construct hdr b0 b1 s).UnlessHalted fun u => u.phase = .accept := by
  have hflush : (flush s).UnlessHalted fun u => u.phase = .accept := by
    intro hlive
    rw [flush_phase hlive, phaseAfterFlush, hc]
  unfold construct packetStart packetStartInvalid packetData
  split
  · split
    · exact unlessHalted_andThen fun _ => hflush
    · exact hflush
  split
  · split
    · split
      · exact fun _ => hp
      · exact fun _ => hp
    · exact fun _ => hp
  · exact fun _ => hp

theorem State.InAccept.next {n count : Nat} (h : s.InAccept i n (count + 1))
    (hlive : (constructAt i s).fatal = false) : (nextConstruct (constructAt i s)).InAccept i n count where
  live := hlive
  phase := construct_phase _ _ _ h.phase h.call hlive
  call := (construct_inProgress ..).trans h.call
  left := by
    have hleft := h.left
    simp only [nextConstruct, constructAt, construct_cidx]
    omega

/-- A step of the loop: the next construct, or the last lines of `Accept`. -/
theorem State.InAccept.step {n count : Nat} (h : s.InAccept i n count) :
    step s = .next (if count = 0 then endAccept i s else (constructAt i s).andThen nextConstruct) := by
  have hleft := h.left
  rw [step_eq_stepInside h.live (by simp [h.phase]), stepInside_accept h.live h.phase h.call]
  by_cases hcount : count = 0
  · rw [if_pos hcount, if_neg (by omega)]
  · rw [if_neg hcount, if_pos (by omega)]

theorem runSteps_succ_of_next {n : Nat} (h : Machine.step s = .next t) : runSteps (n + 1) s = runSteps n t := by
  simp only [runSteps, h]

/-- One step per construct, and one for the last lines; a fatal condition ends the run where it ends the loop. -/
theorem State.InAccept.run {n count : Nat} (h : s.InAccept i n count) :
    ∃ k, runSteps k s = some ((acceptLoop i count s).andThen (endAccept i)) := by
  induction count generalizing s with
  | zero => exact ⟨1, by rw [runSteps_succ_of_next h.step, acceptLoop, andThen_of_live h.live]; rfl⟩
  | succ count ih =>
    have hstep := runSteps_succ_of_next (n := 0) h.step
    rw [if_neg (Nat.succ_ne_zero count)] at hstep
    cases hf : (constructAt i s).fatal with
    | true =>
      rw [andThen_of_halted hf] at hstep
      exact ⟨1, by rw [hstep, acceptLoop_succ_of_halted hf, andThen_of_halted hf]; rfl⟩
    | false =>
      obtain ⟨k, hk⟩ := ih (h.next hf)
      refine ⟨k + 1, ?_⟩
      rw [runSteps_succ_of_next h.step, if_neg (Nat.succ_ne_zero count), andThen_of_live hf, hk,
        acceptLoop_succ_of_live hf]

theorem accepting_inAccept (i : Nat) (p : Slot) (hs : s.fatal = false) :
    (s.accepting i p).InAccept i p.numElements (p.numElements / 3) :=
  ⟨hs, rfl, rfl, Nat.zero_add _⟩

/-! ### `Terminate` -/

/-- The services of the report are numbered from 1, the entries of the register file from 0 (10_state.md R31). -/
theorem ambiguousServices_eq (s : State) :
    ambiguousServices s = (List.range' 1 63).filter fun k => s.ambiguous[k - 1]?.getD false := by
  simp only [ambiguousServices, List.range'_eq_map_range, List.filter_map, Function.comp_def, Nat.add_comm 1,
    Nat.add_sub_cancel]
  rfl

/-- So are the event codes and the counters (R32). -/
theorem counters_eq (s : State) : s.cnt.toList = (List.range' 1 17).map (counterOf s) := by
  refine List.ext_getElem (by simp) fun k hk hk' => ?_
  have hlt : k < 17 := by simpa using hk
  simp [counterOf, hlt]

theorem reportOf_eq_reportOfCounters (s : State) : reportOf s = reportOfCounters s := by
  rw [reportOf, ambiguousServices_eq, counters_eq, reportOfCounters]

/-- Before the end of the stream `Terminate` is a Flush and the lines after it (R172). -/
theorem terminate_of_flush (hf : s.fatal = false) (ht : s.terminated = false) :
    terminate s = (flush { s with ok := true, inProgress := .terminate }).andThen endTerminate := by
  rw [terminate, enterTerminate, if_neg (by simp [ht]),
    andThen_of_live (s := { s with ok := true, inProgress := .terminate }) hf]

/-- The lines of `Terminate` after its Flush, with sinks that keep their duty (R172, 60_exceptions.md R392). -/
theorem endTerminate_of_dutiful (hf : s.fatal = false) (hd : s.dutifulSinks) :
    endTerminate s =
      { s.answered s.sinks.length with
        sinkCalls := s.sinkCalls ++ terminateCalls s.sinks
        diag := s.diag ++ [.report (reportOfCounters s)]
        terminated := true
        ret := some (.bool (s.ok && allSucceed (s.answers s.sinks.length)))
        phase := .host, inProgress := .none } := by
  rw [endTerminate_eq, shutdown_of_dutiful hf hd,
    andThen_of_live (show (s.afterCalls s.sinks.length (terminateCalls s.sinks)).fatal = false from hf),
    ← reportOf_eq_reportOfCounters]
  rfl

end Sys2Proof.Machine
end

section
/-! What the decoder leaves alone: of the buffers it changes only the elements of its own, and it calls no sink
(43_decoder_c0.md R220, R221, 42_service_block_parser.md R198). -/

namespace Sys2Proof.Machine

-- One proof at a time: in parallel they need more threads than the memory limit allows.
set_option Elab.async false

variable {s t : State} {i k : Nat} {p q : Slot}

/-! ### The ledger without the units of the output buffer -/

/-- A slot without its elements. -/
def Slot.emptied (p : Slot) : Slot := { p with data := [] }

/-- The pool without the elements of the output buffer. -/
def State.poolWithoutUnits (s : State) : List Slot :=
  match s.out with
  | none => s.pool
  | some i => s.pool.modify i Slot.emptied

/-- The output buffer and the ledger, without the elements of that buffer and without the halt. -/
def State.account (s : State) : Handle × Ledger :=
  (s.out, { s.ledger with fatal := false, pool := s.poolWithoutUnits })

theorem raise_account (e : Event) (s : State) (he : e ≠ .noSinks := by nofun) : (raise e s).account = s.account := by
  simp only [State.account, raise_ledger e s he]
  rfl

theorem raiseFatal_account (c : FatalCause) (s : State) : (raiseFatal c s).account = s.account := by
  simp [State.account, State.ledger, State.poolWithoutUnits, noSinksEvents]

/-- Elements appended to a slot do not show once it is emptied. -/
theorem modify_emptied_set {pool : List Slot} (hp : pool[i]? = some p) (data : List Element) :
    (pool.set i { p with data := data }).modify i Slot.emptied = pool.modify i Slot.emptied := by
  refine List.ext_getElem? fun k => ?_
  rw [List.getElem?_modify, List.getElem?_modify, List.getElem?_set]
  by_cases hk : i = k
  · subst hk
    obtain ⟨hlt, rfl⟩ := List.getElem?_eq_some_iff.1 hp
    simp [hlt, Slot.emptied]
  · simp [hk]

/-- A unit goes into the output buffer (R132, R220). -/
theorem emit_account (body : Body) (s : State) : (emit body s).account = s.account := by
  obtain ⟨c, heq⟩ | ⟨i, p, hout, hp, -, -, heq⟩ := emit_cases body s
  · rw [heq, raiseFatal_account]
  · rw [heq]
    simp only [State.account, State.ledger, State.poolWithoutUnits, setSlot, hout, modify_emptied_set hp]

theorem andThen_account {f : State → State} (h : t.account = s.account) (hf : ∀ u, (f u).account = u.account) :
    (t.andThen f).account = s.account :=
  andThen_induct (P := fun u => u.account = s.account) h fun _ ht => (hf t).trans ht

/-! ### The decoder -/

theorem complete_account (s : State) : (complete s).account = s.account := rfl

theorem classify_account (svc : BitVec 6) (ws : BitVec 3) (s : State) : (classify svc ws s).account = s.account := by
  unfold classify
  dsimp only
  split; · rfl
  split; · rfl
  split
  · exact raise_account (.styleTransition ..) (setAmbiguous svc s)
  · rfl

theorem c0Single_account (b : Byte) (s : State) : (c0Single b s).account = s.account := by
  unfold c0Single
  split
  · exact emit_account _ s
  · exact raise_account _ s

theorem c0Byte_account (b : Byte) (s : State) : (c0Byte b s).account = s.account := by
  unfold c0Byte
  dsimp only
  split
  · refine andThen_account ?_ complete_account
    split
    · exact andThen_account (emit_account _ (collect b s)) fun u => raise_account _ u
    · exact raise_account _ (collect b s)
  · rfl

theorem c1Rule_account (s : State) : (c1Rule s).account = s.account := by
  unfold c1Rule
  dsimp only
  iterate 7 (split; · exact emit_account _ s)
  split; · exact raise_account _ s
  split; · exact emit_account _ s
  exact andThen_account (emit_account _ s) (classify_account _ _)

theorem c1Complete_account (s : State) : (c1Complete s).account = s.account := by
  refine andThen_account ?_ complete_account
  split
  · exact raise_account _ s
  · exact c1Rule_account s

theorem c1Entry_account (b : Byte) (s : State) : (c1Entry b s).account = s.account := by
  unfold c1Entry
  dsimp only
  split
  · exact c1Complete_account _
  · rfl

theorem c1Byte_account (b : Byte) (s : State) : (c1Byte b s).account = s.account := by
  unfold c1Byte
  dsimp only
  split
  · exact c1Complete_account _
  · rfl

theorem c2Complete_account (s : State) : (c2Complete s).account = s.account :=
  andThen_account (andThen_account (emit_account _ s) fun u => raise_account _ u) complete_account

theorem c3Complete_account (s : State) : (c3Complete s).account = s.account :=
  andThen_account (andThen_account (emit_account _ s) fun u => raise_account _ u) complete_account

theorem extCodeByte_account (e : Byte) (s : State) : (extCodeByte e s).account = s.account := by
  unfold extCodeByte
  dsimp only
  split
  · split
    · exact c2Complete_account _
    · rfl
  split; · exact andThen_account (emit_account _ s) complete_account
  split; · rfl
  split; · exact raise_account (.c3VarlenAbandon ..) s
  exact andThen_account (emit_account _ s) complete_account

theorem extSkipByte_account (s : State) : (extSkipByte s).account = s.account := by
  unfold extSkipByte
  dsimp only
  split
  · split
    · exact c2Complete_account _
    · exact c3Complete_account _
  · rfl

theorem dataWaitByte_account (b : Byte) (s : State) : (dataWaitByte b s).account = s.account := by
  unfold dataWaitByte
  dsimp only
  split; · exact c0Single_account b s
  split; · rfl
  split; · rfl
  split; · rfl
  split; · exact emit_account _ s
  split; · exact c1Entry_account b s
  exact emit_account _ s

theorem decodeByte_account (b : Byte) (s : State) : (decodeByte b s).account = s.account := by
  unfold decodeByte
  split
  · exact dataWaitByte_account b s
  · exact c0Byte_account b s
  · exact c1Byte_account b s
  · unfold extByte
    split
    · exact extCodeByte_account b s
    · exact extSkipByte_account s

theorem decodeLoop_account (fuel : Nat) (s : State) : (decodeLoop fuel s).account = s.account := by
  induction fuel generalizing s with
  | zero => rfl
  | succ fuel ih =>
    unfold decodeLoop
    split; · rfl
    split
    · exact (ih _).trans (decodeByte_account _ { s with rd := cursor (s.rd.val + 1) })
    · rfl

theorem endOfBytes_account (s : State) : (endOfBytes s).account = s.account := by
  unfold endOfBytes
  split
  · rfl
  · exact raise_account (.decodeTruncated ..) s

theorem decodeBlock_account (s : State) : (decodeBlock s).account = s.account :=
  andThen_account (decodeLoop_account _ s) endOfBytes_account

/-! ### What the account says of the pool -/

theorem account_out (h : t.account = s.account) : t.out = s.out := (congrArg Prod.fst h :)

theorem account_poolWithoutUnits (h : t.account = s.account) : t.poolWithoutUnits = s.poolWithoutUnits :=
  (congrArg (Ledger.pool ∘ Prod.snd) h :)

/-- A slot that is not the output buffer is as before. -/
theorem account_getElem?_of_ne (h : t.account = s.account) (hk : s.out ≠ some k) : t.pool[k]? = s.pool[k]? := by
  have hout := account_out h
  have hpool := congrArg (·[k]?) (account_poolWithoutUnits h)
  unfold State.poolWithoutUnits at hpool
  rw [hout] at hpool
  cases ho : s.out with
  | none => simpa [ho] using hpool
  | some i =>
    have hik : i ≠ k := fun hik => hk (by rw [ho, hik])
    simpa [ho, List.getElem?_modify, hik] using hpool

/-- The output buffer is as before but for its elements. -/
theorem account_getElem?_out (h : t.account = s.account) (hi : s.out = some i) (hp : s.pool[i]? = some p) :
    ∃ q, t.pool[i]? = some q ∧ q.emptied = p.emptied := by
  have hout := (account_out h).trans hi
  have hpool := congrArg (·[i]?) (account_poolWithoutUnits h)
  simpa [State.poolWithoutUnits, hi, hout, List.getElem?_modify, hp] using hpool

end Sys2Proof.Machine
end

section
/-! What one service block, and a row of them, delivers to the sinks (40_buffer_fanout.md R136,
42_service_block_parser.md R198, R200). -/

namespace Sys2Proof.Machine

-- One proof at a time: in parallel they need more threads than the memory limit allows.
set_option Elab.async false

variable {s t u : State} {i : Nat} {p q : Slot}

/-! ### The answers to a row of calls -/

theorem answers_add (m n : Nat) (s : State) : s.answers (m + n) = s.answers m ++ (s.answered m).answers n := by
  induction m generalizing s with
  | zero => rw [answers_zero, answered_zero, Nat.zero_add, List.nil_append]
  | succ m ih => rw [Nat.add_right_comm, answers_succ, ih, answers_succ m, answered_succ m, List.cons_append]

theorem answered_add (m n : Nat) (s : State) : s.answered (m + n) = (s.answered m).answered n := by
  induction m generalizing s with
  | zero => rw [answered_zero, Nat.zero_add]
  | succ m ih => rw [Nat.add_right_comm, answered_succ, ih, answered_succ m]

theorem length_answers (n : Nat) (s : State) : (s.answers n).length = n := by
  induction n generalizing s with
  | zero => rw [answers_zero, List.length_nil]
  | succ n ih => rw [answers_succ, List.length_cons, ih]

theorem allSucceed_append (rs rs' : List Reply) : allSucceed (rs ++ rs') = (allSucceed rs && allSucceed rs') :=
  List.all_append

/-- The script is used up as far as the calls `calls`, and `ok` has taken the answers: all of them, or where no sink is
registered a false for every Dispatch (R136 (c), 41_packet_assembler.md R171). -/
structure Answered (s : State) (calls : List SinkCall) (t : State) : Prop where
  replies : t.replies = (s.answered calls.length).replies
  sinkTick : t.sinkTick = (s.answered calls.length).sinkTick
  withSinks : s.sinks ≠ [] → t.ok = (s.ok && allSucceed (s.answers calls.length))
  withoutSinks : s.sinks = [] → calls = [] ∧
    ∃ k, noSinksEvents t.diag = noSinksEvents s.diag + k ∧ t.ok = (s.ok && decide (k = 0))

/-- What the answers to come depend on is the script and its tick alone. -/
theorem answered_congr {n : Nat} (hr : t.replies = u.replies) (ht : t.sinkTick = u.sinkTick) :
    t.answers n = u.answers n ∧ (t.answered n).replies = (u.answered n).replies ∧
      (t.answered n).sinkTick = (u.answered n).sinkTick := by
  simp [State.answers, State.answered, hr, ht]

theorem Answered.trans {calls calls' : List SinkCall} (h : Answered s calls t) (g : Answered t calls' u)
    (hsinks : t.sinks = s.sinks) : Answered s (calls ++ calls') u := by
  obtain ⟨hanswers, hreplies, htick⟩ := answered_congr (n := calls'.length) h.replies h.sinkTick
  refine ⟨?_, ?_, fun hne => ?_, fun hnil => ?_⟩
  · rw [List.length_append, answered_add, g.replies, hreplies]
  · rw [List.length_append, answered_add, g.sinkTick, htick]
  · rw [g.withSinks (hsinks ▸ hne), h.withSinks hne, hanswers, List.length_append, answers_add, allSucceed_append,
      Bool.and_assoc]
  · obtain ⟨hcalls, k, hk, hok⟩ := h.withoutSinks hnil
    obtain ⟨hcalls', k', hk', hok'⟩ := g.withoutSinks (hsinks.trans hnil)
    refine ⟨by rw [hcalls, hcalls', List.append_nil], k + k', by omega, ?_⟩
    rw [hok', hok, Bool.and_assoc, ← Bool.decide_and]
    simp

/-- Without a sink `ok` stays as it was exactly where no `EV_NO_SINKS` has been raised since (R136 (c)). -/
theorem Answered.ok_of_no_sinks {calls : List SinkCall} (h : Answered s calls t) (hnil : s.sinks = []) :
    t.ok = (s.ok && decide (noSinksEvents t.diag = noSinksEvents s.diag)) := by
  obtain ⟨-, k, hk, hok⟩ := h.withoutSinks hnil
  rw [hok, hk]
  simp

/-! ### The contract of a delivery -/

/-- What may happen from `s` to `t` inside one upstream call, to an operation that owns the buffer `own`: of the
registers of the call only the cursor moves, no other slot in use is touched, calls are made on the sinks, and unless
the machine is halted they are answered in order. -/
structure Delivers (own : Handle) (s t : State) : Prop where
  call : t.callRegisters = { s.callRegisters with cidx := t.cidx }
  live : t.fatal = false → s.fatal = false
  slots : ∀ (k : Nat) (p : Slot), own ≠ some k → s.pool[k]? = some p → p.inUse = true → t.pool[k]? = some p
  calls : ∃ calls, t.sinkCalls = s.sinkCalls ++ calls ∧ (t.fatal = false → Answered s calls t)

variable {own : Handle}

theorem callRegisters_but_cidx (hc : t.callRegisters = s.callRegisters) :
    t.callRegisters = { s.callRegisters with cidx := t.cidx } := by
  have hcidx : t.cidx = s.cidx := (congrArg CallRegisters.cidx hc :)
  rw [hc, hcidx]
  rfl

theorem Delivers.sinks (h : Delivers own s t) : t.sinks = s.sinks := (congrArg CallRegisters.sinks h.call :)

theorem Delivers.trans (h : Delivers own s t) (g : Delivers own t u) : Delivers own s u where
  call := by rw [g.call, h.call]
  live := h.live ∘ g.live
  slots k p hk hp hu := g.slots k p hk (h.slots k p hk hp hu) hu
  calls := by
    obtain ⟨calls, hcalls, hans⟩ := h.calls
    obtain ⟨calls', hcalls', hans'⟩ := g.calls
    refine ⟨calls ++ calls', by rw [hcalls', hcalls, List.append_assoc], fun hu => ?_⟩
    exact (hans (g.live hu)).trans (hans' hu) h.sinks

theorem Delivers.andThen {f : State → State} (h : Delivers own s t)
    (hf : t.fatal = false → Delivers own t (f t)) : Delivers own s (t.andThen f) :=
  andThen_induct h fun hlive ht => ht.trans (hf hlive)

/-- A buffer that was free before is not one that was in use. -/
theorem Delivers.of_free (h : Delivers own s t)
    (hfree : ∀ i, own = some i → ∃ q, s.pool[i]? = some q ∧ q.inUse = false) : Delivers none s t where
  __ := h
  slots k p _ hp hu := by
    refine h.slots k p (fun hk => ?_) hp hu
    obtain ⟨q, hq, hqfree⟩ := hfree k hk
    rw [hp] at hq
    cases hq
    simp [hu] at hqfree

/-- No call is answered by a line that leaves the answers, `ok` and the count of `EV_NO_SINKS` as they are. -/
theorem answered_nil (hr : t.replies = s.replies) (ht : t.sinkTick = s.sinkTick) (hok : t.ok = s.ok)
    (hno : noSinksEvents t.diag = noSinksEvents s.diag) : Answered s [] t where
  replies := hr
  sinkTick := by rw [List.length_nil, answered_zero, ht]
  withSinks _ := by rw [List.length_nil, answers_zero, allSucceed, List.all_nil, Bool.and_true, hok]
  withoutSinks _ := ⟨rfl, 0, hno, by rw [decide_eq_true rfl, Bool.and_true, hok]⟩

/-- A line that changes nothing of the ledger delivers nothing. -/
theorem delivers_of_ledger (hl : t.ledger = s.ledger)
    (hc : t.callRegisters = { s.callRegisters with cidx := t.cidx }) : Delivers own s t where
  call := hc
  live := (congrArg Ledger.fatal hl :).symm.trans
  slots k _ _ hp _ := (congrArg (fun l : Ledger => l.pool[k]?) hl :).trans hp
  calls := by
    have hcalls : t.sinkCalls = s.sinkCalls := (congrArg Ledger.sinkCalls hl :)
    exact ⟨[], hcalls.trans (List.append_nil _).symm, fun _ =>
      answered_nil (congrArg Ledger.replies hl :) (congrArg Ledger.sinkTick hl :) (congrArg Ledger.ok hl :)
        (congrArg Ledger.noSinks hl :)⟩

theorem raiseFatal_delivers (c : FatalCause) (s : State) : Delivers own s (raiseFatal c s) where
  call := rfl
  live := nofun
  slots _ _ _ hp _ := hp
  calls := ⟨[], (List.append_nil _).symm, nofun⟩

/-- The buffer that an operation owns may change. -/
theorem setSlot_delivers (i : Nat) (p : Slot) (s : State) : Delivers (some i) s (setSlot i p s) where
  call := rfl
  live := id
  slots k q hk hq _ := by
    have hik : i ≠ k := fun h => hk (congrArg some h)
    exact (List.getElem?_set_ne hik).trans hq
  calls := ⟨[], (List.append_nil _).symm, fun _ => answered_nil rfl rfl rfl rfl⟩

/-- Sinks that keep their duty do so in what is left of the script. -/
theorem Delivers.dutiful (h : Delivers own s t) (ht : t.fatal = false) (hd : s.dutifulSinks) : t.dutifulSinks := by
  obtain ⟨calls, -, hans⟩ := h.calls
  intro r hr
  rw [(hans ht).replies] at hr
  exact dutifulSinks_answered _ hd r hr

/-! ### The beginning and the bytes of a block -/

/-- What the first lines of `ProcessBlock` can do: leave no output buffer, find no free slot, or take one (R131,
R198). -/
theorem openBlock_cases (hf : s.fatal = false) :
    ∃ n,
      openBlock s = { s with expectN := n, phase := .block, out := none } ∨
      openBlock s = raiseFatal .poolExhausted { s with expectN := n, phase := .block } ∨
      ∃ i q, s.pool[i]? = some q ∧ q.inUse = false ∧
        openBlock s =
          setSlot i { freshSlot .dtvccUnits n with ts := s.curTs }
            { s with expectN := n, phase := .block, out := some i } := by
  refine ⟨preCount s s.rd.val s.sbEnd.val, ?_⟩
  unfold openBlock
  dsimp only
  split
  · exact .inl rfl
  · obtain ⟨-, heq⟩ | ⟨i, q, hq, hfree, heq⟩ := allocate_cases .dtvccUnits (preCount s s.rd.val s.sbEnd.val)
      { s with expectN := preCount s s.rd.val s.sbEnd.val, phase := .block }
    · rw [heq, andThen_of_halted (raiseFatal_fatal ..)]
      exact .inr (.inl rfl)
    · refine .inr (.inr ⟨i, q, hq, hfree, ?_⟩)
      have hlive : (setSlot i (freshSlot .dtvccUnits (preCount s s.rd.val s.sbEnd.val))
          { s with
            expectN := preCount s s.rd.val s.sbEnd.val, phase := .block
            out := some i }).LiveSlot i (freshSlot .dtvccUnits (preCount s s.rd.val s.sbEnd.val)) :=
        ⟨hf, setSlot_getElem? hq, rfl⟩
      rw [heq, andThen_of_live (by exact hf)]
      exact (setTimestamp_of_liveSlot hlive s.curTs).trans (setSlot_setSlot ..)

/-- The output buffer of a block that is opened was free before, and has the producer's reference alone (R131). -/
theorem openBlock_delivers (hf : s.fatal = false) :
    ∃ own, Delivers own s (openBlock s) ∧
      (∀ i, own = some i → ∃ q, s.pool[i]? = some q ∧ q.inUse = false) ∧
      ((openBlock s).fatal = false → (openBlock s).out = own ∧
        ∀ i, own = some i → ∃ p, (openBlock s).LiveSlot i p ∧ p.readers = 1) := by
  obtain ⟨n, heq | heq | ⟨i, q, hq, hfree, heq⟩⟩ := openBlock_cases hf <;> rw [heq]
  · exact ⟨none, delivers_of_ledger rfl rfl, nofun, fun _ => ⟨rfl, nofun⟩⟩
  · have hstart : Delivers none s { s with expectN := n, phase := .block } := delivers_of_ledger rfl rfl
    exact ⟨none, hstart.trans (raiseFatal_delivers ..), nofun, nofun⟩
  · have hstart : Delivers (some i) s { s with expectN := n, phase := .block, out := some i } :=
      delivers_of_ledger rfl rfl
    refine ⟨some i, hstart.trans (setSlot_delivers ..), fun j hj => ?_, fun hlive => ⟨rfl, fun j hj => ?_⟩⟩
    · cases hj
      exact ⟨q, hq, hfree⟩
    · cases hj
      exact ⟨_, ⟨hlive, setSlot_getElem? hq, rfl⟩, rfl⟩

/-- The decoder changes of the slots in use only its own buffer, and delivers nothing (R220). -/
theorem decodeBlock_delivers (hf : s.fatal = false) : Delivers s.out s (decodeBlock s) where
  call := callRegisters_but_cidx (decodeBlock_steps s).callRegisters
  live _ := hf
  slots k p hk hp _ := (account_getElem?_of_ne (decodeBlock_account s) hk).trans hp
  calls := by
    have h : (decodeBlock s).account.2 = s.account.2 := congrArg Prod.snd (decodeBlock_account s)
    have hcalls : (decodeBlock s).sinkCalls = s.sinkCalls := (congrArg Ledger.sinkCalls h :)
    exact ⟨[], hcalls.trans (List.append_nil _).symm, fun _ =>
      answered_nil (congrArg Ledger.replies h :) (congrArg Ledger.sinkTick h :) (congrArg Ledger.ok h :)
        (congrArg Ledger.noSinks h :)⟩

/-! ### The end of a block -/

theorem release_of_reader (h : s.LiveSlot i p) (hr : 1 ≤ p.readers) :
    release (some i) s =
      setSlot i { p with readers := p.readers - 1, inUse := decide (p.readers - 1 ≠ 0) } s := by
  rw [release, withSlot_of_some (slotOf_of_liveSlot h), if_neg (by omega)]

/-- A Dispatch of the producer's own buffer, whose result `ok` takes (R136, R200): the producer keeps its reference. -/
theorem dispatch_delivers (h : s.LiveSlot i p) (hr : p.readers = 1) (hd : s.dutifulSinks) :
    ∃ r t q, dispatch (some i) s = (r, t) ∧ t.out = s.out ∧ t.LiveSlot i q ∧ 1 ≤ q.readers ∧
      Delivers (some i) s { t with ok := t.ok && r } := by
  by_cases hsinks : s.sinks = []
  · refine ⟨false, raise .noSinks s, p, dispatch_of_no_sinks h hsinks, rfl, h, hr.ge, ?_⟩
    exact
      { call := rfl
        live := id
        slots := fun _ _ _ hp _ => hp
        calls := ⟨[], (List.append_nil _).symm, fun _ =>
          { replies := rfl
            sinkTick := by rw [List.length_nil, answered_zero]; rfl
            withSinks := fun hne => absurd hsinks hne
            withoutSinks := fun _ => ⟨rfl, 1, noSinksEvents_raise_noSinks s, rfl⟩ }⟩ }
  · have hle : releasesIn (s.answers s.sinks.length) ≤ s.sinks.length :=
      List.countP_le_length.trans_eq (length_answers _ s)
    refine ⟨_, _, _, dispatch_of_liveSlot h hr.ge hsinks hd, rfl,
      setSlot_liveSlot (afterCalls_liveSlot _ _ h) h.inUse, by simp only; omega, ?_⟩
    refine Delivers.trans (t := { s.afterCalls s.sinks.length (acceptCalls s.sinks i p.ts p.data) with
        ok := s.ok && allSucceed (s.answers s.sinks.length) }) ?_ (setSlot_delivers i _ _)
    have hlen : (acceptCalls s.sinks i p.ts p.data).length = s.sinks.length := by simp [acceptCalls]
    exact
      { call := rfl
        live := id
        slots := fun _ _ _ hp _ => hp
        calls := ⟨_, rfl, fun _ =>
          { replies := by rw [hlen]; rfl
            sinkTick := by rw [hlen]; rfl
            withSinks := fun _ => by rw [hlen]
            withoutSinks := fun hnil => absurd hnil hsinks }⟩ }

/-- `Deliver()` of a buffer with one reader (R200). -/
theorem deliver_delivers (hout : s.out = some i) (h : s.LiveSlot i p) (hr : p.readers = 1) (hd : s.dutifulSinks) :
    Delivers (some i) s (deliver s) := by
  obtain ⟨r, t, q, hdispatch, htout, hlive, hreaders, hdel⟩ := dispatch_delivers h hr hd
  have hrelease := (congrArg (release · { t with ok := t.ok && r }) (htout.trans hout)).trans
    (release_of_reader (s := { t with ok := t.ok && r }) hlive hreaders)
  rw [deliver_eq, hout, hdispatch, andThen_of_live hlive.notHalted]
  refine Delivers.andThen ?_ fun _ => delivers_of_ledger rfl rfl
  exact hrelease ▸ hdel.trans (setSlot_delivers i _ _)

/-- The last lines of `ProcessBlock` (R198 to R200), without an output buffer or with one that has one reader. -/
theorem closeBlock_delivers (hown : s.out = own)
    (hbuf : ∀ i, own = some i → ∃ p, s.LiveSlot i p ∧ p.readers = 1) (hd : s.dutifulSinks) :
    Delivers own s (closeBlock s) := by
  refine Delivers.andThen ?_ fun _ => delivers_of_ledger rfl rfl
  unfold countCheck
  split
  · refine Delivers.andThen (delivers_of_ledger rfl rfl) fun _ => ?_
    split
    · exact delivers_of_ledger rfl rfl
    · next hne =>
      obtain ⟨i, hi⟩ := Option.ne_none_iff_exists'.1 hne
      obtain ⟨p, hlive, hr⟩ := hbuf i (hown.symm.trans hi)
      rw [← hown, hi]
      exact deliver_delivers hi hlive hr hd
  · rw [andThen_of_halted (raiseFatal_fatal ..)]
    exact raiseFatal_delivers _ s

/-! ### A block, and a row of lines and blocks -/

theorem andThen_andThen (s : State) (f g : State → State) :
    (s.andThen f).andThen g = s.andThen fun t => (f t).andThen g := by
  obtain ⟨hs, heq⟩ | ⟨hs, heq⟩ := andThen_cases s f
  · rw [heq, andThen_of_halted hs, andThen_of_halted hs]
  · rw [heq, andThen_of_live hs]

/-- From a block that is open the codes and the last lines deliver; the buffer has the producer's reference alone. -/
theorem decodeBlock_closeBlock_delivers (hf : s.fatal = false)
    (hbuf : ∀ i, s.out = some i → ∃ p, s.LiveSlot i p ∧ p.readers = 1) (hd : s.dutifulSinks) :
    Delivers s.out s ((decodeBlock s).andThen closeBlock) := by
  have hdecode := decodeBlock_delivers hf
  have haccount := decodeBlock_account s
  refine hdecode.andThen fun hlive => ?_
  refine closeBlock_delivers (account_out haccount) (fun i hi => ?_) (hdecode.dutiful hlive hd)
  obtain ⟨p, hp, hr⟩ := hbuf i hi
  obtain ⟨q, hq, hempty⟩ := account_getElem?_out haccount hi hp.getSlot
  have huse : q.inUse = p.inUse := (congrArg Slot.inUse hempty :)
  have hreaders : q.readers = p.readers := (congrArg Slot.readers hempty :)
  exact ⟨q, ⟨hlive, hq, huse.trans hp.inUse⟩, hreaders.trans hr⟩

/-- `ProcessBlock` touches no buffer that was in use before, and its calls are answered in order (R198, R200). -/
theorem processBlock_delivers (hf : s.fatal = false) (hd : s.dutifulSinks) : Delivers none s (processBlock s) := by
  obtain ⟨own, hopen, hfree, hbuf⟩ := openBlock_delivers hf
  rw [processBlock, andThen_andThen]
  refine (hopen.andThen fun hlive => ?_).of_free hfree
  obtain ⟨rfl, hreader⟩ := hbuf hlive
  exact decodeBlock_closeBlock_delivers hlive hreader (hopen.dutiful hlive hd)

/-- So do the lines and blocks of a Flush. -/
theorem FlushSteps.delivers (h : FlushSteps s t) (hd : s.dutifulSinks) : Delivers none s t := by
  induction h with
  | refl => exact delivers_of_ledger rfl rfl
  | tail _ hu ih =>
    refine ih.trans ?_
    cases hu with
    | quiet hl hc => exact delivers_of_ledger hl (callRegisters_but_cidx hc)
    | block hf => exact processBlock_delivers hf (ih.dutiful hf hd)

end Sys2Proof.Machine
end

section
/-! The whole of `Accept` (41_packet_assembler.md R160 to R164, R171). -/

namespace Sys2Proof.Machine

-- One proof at a time: in parallel they need more threads than the memory limit allows.
set_option Elab.async false

variable {s t : State} {i : Nat} {p : Slot}

/-! ### The call -/

/-- The last lines of `Accept` where the input buffer still has a reader (R160, R171). -/
theorem endAccept_of_reader (h : s.LiveSlot i p) (hr : 1 ≤ p.readers) :
    endAccept i s =
      { setSlot i { p with readers := p.readers - 1, inUse := decide (p.readers - 1 ≠ 0) } s with
        ret := some (.bool s.ok), phase := .host, inProgress := .none } := by
  rw [endAccept, release_of_reader h hr, andThen_of_live (by exact h.notHalted)]
  rfl

theorem exec_accept_of_liveSlot (h : s.LiveSlot i p) (hp : s.phase = .host) (ht : s.terminated = false)
    (hty : p.type = .rawCc) (hn : p.numElements % 3 = 0) :
    exec (.accept (some i)) s =
      .next ((acceptLoop i (p.numElements / 3) (State.accepting i p { s with ret := none })).andThen
        (endAccept i)) :=
  (hostOperation_of_host h.notHalted hp).trans (congrArg _ (acceptBuffer_of_enterAccept h.notHalted
    (enterAccept_of_liveSlot (liveSlot_ret h none) ht hty hn)))

/-! ### A buffer without a packet-start -/

/-- The three bytes of a construct, as they stand in an input buffer behind `pre` (20_memory.md R61). -/
theorem getElem?_inbufOf_cons (pre : List Element) (c : RawConstruct) (cs : List RawConstruct) :
    (pre ++ inbufOf (c :: cs))[pre.length]? = some (.byte c.hdr) ∧
    (pre ++ inbufOf (c :: cs))[pre.length + 1]? = some (.byte c.b0) ∧
    (pre ++ inbufOf (c :: cs))[pre.length + 2]? = some (.byte c.b1) := by
  simp [inbufOf]

theorem inbufByte_of_byte {n : Nat} {b : Byte} (hp : s.pool[i]? = some p) (hb : p.data[n]? = some (.byte b)) :
    inbufByte s i n = b := by
  simp only [inbufByte, hp, Option.getD_some, hb, elementByte]

theorem packetDataBytes_cons (tags : Tags) (c : RawConstruct) (cs : List RawConstruct) :
    packetDataBytes tags (c :: cs) = packetDataBytes tags [c] ++ packetDataBytes tags cs := by
  simp [packetDataBytes]

/-- A construct that is no packet-start appends its packet-data bytes, if any (R162 to R164). -/
theorem construct_of_not_pktStart {c : RawConstruct} (hc : hdrTag c.hdr ≠ s.cfg.tags.pktStart)
    (hfits : s.pktLen.val + (packetDataBytes s.cfg.tags [c]).length ≤ 128) :
    construct c.hdr c.b0 c.b1 s = appendBytes (packetDataBytes s.cfg.tags [c]) s := by
  rw [construct, if_neg hc]
  by_cases htag : hdrTag c.hdr = s.cfg.tags.pktData
  · cases hvalid : hdrValid c.hdr with
    | true =>
      have hbytes : packetDataBytes s.cfg.tags [c] = [c.b0, c.b1] := by simp [packetDataBytes, htag, hvalid]
      rw [hbytes] at hfits ⊢
      rw [if_pos htag, if_pos rfl, packetData_of_fits hfits]
    | false =>
      have hbytes : packetDataBytes s.cfg.tags [c] = [] := by simp [packetDataBytes, hvalid]
      rw [if_pos htag, if_neg (by simp), hbytes, appendBytes_nil]
  · have hbytes : packetDataBytes s.cfg.tags [c] = [] := by simp [packetDataBytes, htag]
    rw [if_neg htag, hbytes, appendBytes_nil]

/-- The loop of `Accept` over constructs of which none is a packet-start assembles their packet-data in order (R162,
20_memory.md R67). -/
theorem acceptLoop_of_not_pktStart (cs : List RawConstruct) {pre : List Element} (hf : s.fatal = false)
    (hp : s.pool[i]? = some p) (hdata : p.data = pre ++ inbufOf cs) (hcidx : 3 * s.cidx = pre.length)
    (hcs : ∀ c ∈ cs, hdrTag c.hdr ≠ s.cfg.tags.pktStart)
    (hfits : s.pktLen.val + (packetDataBytes s.cfg.tags cs).length ≤ 128) :
    acceptLoop i cs.length s =
      { appendBytes (packetDataBytes s.cfg.tags cs) s with cidx := s.cidx + cs.length } := by
  induction cs generalizing s pre with
  | nil => exact (appendBytes_nil s).symm
  | cons c cs ih =>
    obtain ⟨hhdr, hb0, hb1⟩ := getElem?_inbufOf_cons pre c cs
    rw [← hdata, ← hcidx] at hhdr hb0 hb1
    rw [packetDataBytes_cons, List.length_append] at hfits
    have hone : constructAt i s = appendBytes (packetDataBytes s.cfg.tags [c]) s := by
      rw [constructAt, inbufByte_of_byte hp hhdr, inbufByte_of_byte hp hb0, inbufByte_of_byte hp hb1]
      exact construct_of_not_pktStart (hcs c List.mem_cons_self) (by omega)
    have hlen := appendBytes_pktLen (s := s) (bs := packetDataBytes s.cfg.tags [c]) (by omega)
    have hrest := ih (s := nextConstruct (appendBytes (packetDataBytes s.cfg.tags [c]) s))
      (pre := pre ++ [.byte c.hdr, .byte c.b0, .byte c.b1]) hf hp (by simp [hdata, inbufOf])
      (by simp only [nextConstruct, appendBytes, List.length_append, List.length_cons, List.length_nil]; omega)
      (fun d hd => hcs d (List.mem_cons_of_mem c hd)) (by
        rw [nextConstruct_pktLen, hlen]
        exact (Nat.add_assoc ..).trans_le hfits)
    rw [List.length_cons, acceptLoop_succ_of_live (by rw [hone]; exact hf), hone, hrest, packetDataBytes_cons _ c cs,
      appendBytes_append _ (by omega), Nat.add_comm cs.length, ← Nat.add_assoc]
    rfl

theorem length_inbufOf (cs : List RawConstruct) : (inbufOf cs).length = 3 * cs.length := by
  simp [inbufOf, Nat.mul_comm]

/-- The whole of such an `Accept` (R160 to R164, R171). -/
theorem exec_accept_of_not_pktStart {cs : List RawConstruct} (h : s.LiveSlot i p) (hp : s.phase = .host)
    (ht : s.terminated = false) (hty : p.type = .rawCc) (hr : 1 ≤ p.readers) (hdata : p.data = inbufOf cs)
    (hcs : ∀ c ∈ cs, hdrTag c.hdr ≠ s.cfg.tags.pktStart)
    (hfits : s.pktLen.val + (packetDataBytes s.cfg.tags cs).length ≤ 128) :
    exec (.accept (some i)) s =
      .next { appendBytes (packetDataBytes s.cfg.tags cs) s with
        curTs := p.ts, ok := true, cidx := cs.length
        pool := s.pool.set i { p with readers := p.readers - 1, inUse := decide (p.readers - 1 ≠ 0) }
        ret := some (.bool true), phase := .host, inProgress := .none } := by
  have hnum : p.numElements = 3 * cs.length := by rw [Slot.numElements, hdata, length_inbufOf]
  have hloop := acceptLoop_of_not_pktStart (s := State.accepting i p { s with ret := none }) cs (pre := [])
    h.notHalted h.getSlot hdata rfl hcs hfits
  rw [exec_accept_of_liveSlot h hp ht hty (by omega), hnum, Nat.mul_div_cancel_left _ (by decide), hloop,
    andThen_of_live (by exact h.notHalted), endAccept_of_reader (by exact h) hr]
  simp only [appendBytes, State.accepting, setSlot, Nat.zero_add]

/-! ### Any buffer -/

/-- The loop of `Accept` delivers, and passes all its constructs unless the machine is halted (R160). -/
theorem acceptLoop_delivers (count : Nat) (hd : s.dutifulSinks) :
    Delivers none s (acceptLoop i count s) ∧
      ((acceptLoop i count s).fatal = false → (acceptLoop i count s).cidx = s.cidx + count) := by
  induction count generalizing s with
  | zero => exact ⟨delivers_of_ledger rfl rfl, fun _ => rfl⟩
  | succ count ih =>
    have hconstruct : Delivers none s (constructAt i s) := (construct_flushSteps ..).delivers hd
    cases hf : (constructAt i s).fatal with
    | true =>
      rw [acceptLoop_succ_of_halted hf]
      exact ⟨hconstruct, fun hlive => absurd hf (by simp [hlive])⟩
    | false =>
      have hnext : Delivers none s (nextConstruct (constructAt i s)) := hconstruct.trans (delivers_of_ledger rfl rfl)
      obtain ⟨hloop, hcidx⟩ := ih (hnext.dutiful hf hd)
      rw [acceptLoop_succ_of_live hf]
      refine ⟨hnext.trans hloop, fun hlive => ?_⟩
      rw [hcidx hlive, nextConstruct_cidx, constructAt, construct_cidx]
      omega

/-- What the loop of `Accept` leaves when the last lines begin: the input buffer as it was, and the registers of the
call as they were set (R160, R171). -/
theorem Delivers.of_accepting {u : State} (h : s.LiveSlot i p) (hdel : Delivers none (s.accepting i p) u) :
    u.pool[i]? = some p ∧ u.curTs = p.ts ∧ u.terminated = s.terminated ∧ u.ret = s.ret :=
  ⟨hdel.slots i p nofun h.getSlot h.inUse, (congrArg CallRegisters.curTs hdel.call :),
    (congrArg CallRegisters.terminated hdel.call :), (congrArg CallRegisters.ret hdel.call :)⟩

end Sys2Proof.Machine
end

section
/-! The statements of 41_packet_assembler.md on `Accept` and `Terminate`. -/

namespace Sys2Proof.Machine

-- One proof at a time: in parallel they need more threads than the memory limit allows.
set_option Elab.async false

/-- Settles O55: without a packet-start the loop is one append (`exec_accept_of_not_pktStart`); of any buffer the loop
delivers (`acceptLoop_delivers`), and so the input buffer is as it was when the last lines release it. -/
theorem acceptAppendsAndAnswers : Obligations.AcceptAppendsAndAnswers := by
  refine ⟨fun s i p cs h hp ht hty hr hdata hw hcs hfits => ?plain,
    fun s i p h hp ht hty hn hr hd => ?anyBuffer⟩
  case plain =>
    have hlen := appendBytes_pktLen hfits
    refine ⟨_, exec_accept_of_not_pktStart h hp ht hty hr hdata hcs hfits, hlen, pktBytes_appendBytes hw hfits,
      fun a ha => ?_, rfl⟩
    exact pktByte_appendBytes_outside hw hfits (ha.imp_right hlen.ge.trans)
  case anyBuffer =>
    have hx := exec_accept_of_liveSlot h hp ht hty hn
    obtain ⟨hdel, hcidx⟩ := acceptLoop_delivers (i := i) (s := State.accepting i p { s with ret := none })
      (p.numElements / 3) hd
    generalize acceptLoop i (p.numElements / 3) (State.accepting i p { s with ret := none }) = u at hdel hcidx hx
    obtain ⟨hslot, hts, hterm, hret⟩ := hdel.of_accepting (liveSlot_ret h none)
    obtain ⟨calls, hcalls, hanswered⟩ := hdel.calls
    cases hf : u.fatal with
    | true =>
      rw [andThen_of_halted hf] at hx
      exact ⟨u, calls, hx, hcalls, hts, hterm.trans ht, fun hlive => absurd hf (by simp [hlive]),
        fun _ => ⟨hslot, hret⟩⟩
    | false =>
      have hlive : u.LiveSlot i p := ⟨hf, hslot, h.inUse⟩
      have hans := hanswered hf
      rw [andThen_of_live hf, endAccept_of_reader hlive hr] at hx
      refine ⟨_, calls, hx, hcalls, hts, hterm.trans ht, fun _ => ?_, fun hhalt => absurd hhalt (by simp [hf])⟩
      refine ⟨rfl, rfl, (hcidx hf).trans (Nat.zero_add _), setSlot_getElem? hslot, fun hne => ?_, fun hnil => ?_⟩
      · exact congrArg (some ∘ RetVal.bool) (hans.withSinks hne)
      · exact ⟨(hans.withoutSinks hnil).1, congrArg (some ∘ RetVal.bool) (hans.ok_of_no_sinks hnil)⟩

/-- Settles O60, by induction on the constructs left (`State.InAccept.run`). -/
theorem acceptRunsStepByStep : Obligations.AcceptRunsStepByStep := by
  intro s inbuf hf hp hlive
  obtain heq | ⟨i, p, heq⟩ := enterAccept_cases inbuf { s with ret := none }
  · rw [heq] at hlive
    cases hlive
  · have haccept := acceptBuffer_of_enterAccept (s := { s with ret := none }) hf heq
    obtain ⟨k, hk⟩ := (accepting_inAccept (s := { s with ret := none }) i p hf).run
    exact ⟨k, _, hostOperation_of_host hf hp, by rw [heq, hk, haccept]⟩

/-- Settles O56: where nothing is assembled the Flush is `flush_of_empty`; what follows it is
`endTerminate_of_dutiful`. -/
theorem terminateFlushesShutsDownReports : Obligations.TerminateFlushesShutsDownReports := by
  intro s u hf hp ht hu hlive hd
  have hflush : u = flush { s with ret := none, ok := true, inProgress := .terminate } := by
    obtain hx | ⟨hlen, rfl⟩ := hu
    · exact (live_eq_next.1 hx).2
    · exact (flush_of_empty (s := { s with ret := none, ok := true, inProgress := .terminate }) hlen).symm
  refine (hostOperation_of_host hf hp).trans (congrArg _ ?_)
  rw [terminate_of_flush (s := { s with ret := none }) hf ht, ← hflush, andThen_of_live hlive,
    endTerminate_of_dutiful hlive hd]

end Sys2Proof.Machine
end

section
/-! The block headers: where a block begins, and what ends the parse (42_service_block_parser.md R190 to R196). -/

namespace Sys2Proof.Machine

-- One proof at a time: in parallel they need more threads than the memory limit allows.
set_option Elab.async false

variable {s t : State} {n : Nat}

/-! ### The end of the parse -/

theorem parseStep_of_short (h : s.pktLen.val - s.rd.val < 2) : parseStep s = stopParse s := if_pos h

theorem parseStep_of_null (h : hdrSize (pktByte s s.rd.val) = 0) : parseStep s = stopParse s := by
  unfold parseStep
  dsimp only
  rw [if_pos h]
  exact ite_self _

theorem stopParse_of_parsed (h : s.phase = .parsed) : stopParse s = s := by
  rw [stopParse, ← h]

/-- Once the block loop has stopped, it stays where it is (R190). -/
theorem parseLoop_of_parsed (fuel : Nat) (h : s.phase = .parsed) : parseLoop fuel s = s := by
  cases fuel with
  | zero => exact andThen_induct (P := (· = s)) rfl fun _ _ => stopParse_of_parsed h
  | succ fuel => simp [parseLoop, h]

theorem parseLoop_of_halted (fuel : Nat) (h : s.fatal = true) : parseLoop fuel s = s := by
  cases fuel with
  | zero => exact andThen_of_halted h _
  | succ fuel => simp [parseLoop, h]

theorem parseLoop_of_stopped (fuel : Nat) (h : s.fatal = true ∨ s.phase = .parsed) : parseLoop fuel s = s :=
  h.elim (parseLoop_of_halted fuel) (parseLoop_of_parsed fuel)

theorem parseLoop_succ_of_parse (fuel : Nat) (hf : s.fatal = false) (hp : s.phase = .parse) :
    parseLoop (fuel + 1) s = parseLoop fuel (parseStep s) := by
  simp [parseLoop, hf, hp]

/-- Where the first iteration stops, the block loop stops, whatever the fuel. -/
theorem parseLoop_of_stop (fuel : Nat) (hf : s.fatal = false) (hp : s.phase = .parse)
    (h : parseStep s = stopParse s) : parseLoop fuel s = stopParse s := by
  cases fuel with
  | zero => exact andThen_of_live hf _
  | succ fuel => rw [parseLoop_succ_of_parse fuel hf hp, h, parseLoop_of_parsed fuel rfl]

/-! ### The block of a header -/

/-- Behind a header of `k` bytes the block is clamped to the packet and processed (R190, R196). -/
theorem takeBlock_advance {k : Nat} (svc : BitVec 6) (size : BitVec 5) (h : s.rd.val + k ≤ s.pktLen.val) :
    takeBlock svc size (advance k s) = processBlock (s.atBlock k svc size) := by
  have hrd : (advance k s).rd.val = s.rd.val + k := by
    rw [advance_rd, cursor_val]
    omega
  unfold takeBlock State.atBlock
  simp only [advance_pktLen, hrd]
  congr 1
  split <;> simp only [raise_rd, hrd] <;> rfl

theorem atBlock_fatal (k : Nat) (svc : BitVec 6) (size : BitVec 5) (s : State) :
    (s.atBlock k svc size).fatal = s.fatal := by
  unfold State.atBlock
  dsimp only
  split <;> rfl

/-- An extended number below 7 is logged before its block is clamped (R194). -/
theorem sbExt_of_service {svc : BitVec 6} (size : BitVec 5) (hsvc : svc ≠ 0) (h : s.rd.val + 2 ≤ s.pktLen.val) :
    sbExt size svc s =
      processBlock ((if svc.toNat < 7 then raise (.extSvcIllegal svc) s else s).atBlock 2 svc size) := by
  unfold sbExt
  dsimp only
  rw [if_neg hsvc]
  split
  · exact takeBlock_advance (s := raise (.extSvcIllegal svc) s) svc size h
  · exact takeBlock_advance svc size h

/-! ### The block loop moves on -/

/-- The decoder moves `rd` forward inside its block (R221). -/
theorem decodeBlock_rd_le (h : s.rd.val ≤ s.sbEnd.val) : s.rd.val ≤ (decodeBlock s).rd.val := by
  have hend : (decodeBlock s).sbEnd = s.sbEnd := (congrArg State.sbEnd (decodeBlock_steps s).frame :)
  have hahead := (decodeBlock_steps s).ahead_le
  simp only [State.ahead, hend] at hahead
  omega

theorem decodeBlock_pktLen (s : State) : (decodeBlock s).pktLen = s.pktLen :=
  (congrArg State.pktLen (decodeBlock_steps s).frame :)

/-- `u` is no further back in the same packet than `s`. -/
def State.Onward (s u : State) : Prop := s.rd.val ≤ u.rd.val ∧ u.pktLen = s.pktLen

theorem State.Onward.of_cursors {u : State} (h : s.Onward t) (hu : u.cursors = t.cursors) : s.Onward u := by
  have hrd : u.rd = t.rd := (congrArg Cursors.rd hu :)
  have hlen : u.pktLen = t.pktLen := (congrArg Cursors.pktLen hu :)
  rwa [State.Onward, hrd, hlen]

/-- A whole service block moves onward (R198). -/
theorem processBlock_onward (h : s.rd.val ≤ s.sbEnd.val) : s.Onward (processBlock s) := by
  have hopen : s.Onward (openBlock s) := State.Onward.of_cursors ⟨le_rfl, rfl⟩ (openBlock_cursors s)
  have hrd : (openBlock s).rd = s.rd := (congrArg Cursors.rd (openBlock_cursors s) :)
  have hend : (openBlock s).sbEnd = s.sbEnd := (congrArg Cursors.sbEnd (openBlock_cursors s) :)
  have hdecode : s.Onward ((openBlock s).andThen decodeBlock) := by
    refine andThen_induct hopen fun _ ⟨hle, hlen⟩ =>
      ⟨hle.trans (decodeBlock_rd_le ?_), (decodeBlock_pktLen _).trans hlen⟩
    rwa [hrd, hend]
  exact andThen_induct hdecode fun _ hu => hu.of_cursors (closeBlock_cursors _)

/-- Unless it halts the machine, a service block ends in the block loop (R198). -/
theorem processBlock_phase (hf : (processBlock s).fatal = false) : (processBlock s).phase = .parse := by
  obtain ⟨-, hprocess⟩ := andThen_live hf
  rw [processBlock, hprocess] at hf ⊢
  obtain ⟨-, hclose⟩ := andThen_live hf
  simp [closeBlock, hclose]

/-- How many bytes of the packet are left. -/
def State.bytesLeft (s : State) : Nat := s.pktLen.val - s.rd.val

/-- The machine has stopped, or the block loop goes on with at most `n` bytes left (R190). -/
def State.ParsesWithin (n : Nat) (s : State) : Prop :=
  (s.fatal = true ∨ s.phase = .parsed) ∨ (s.fatal = false ∧ s.phase = .parse ∧ s.bytesLeft ≤ n)

theorem State.ParsesWithin.mono {m : Nat} (h : s.ParsesWithin m) (hm : m ≤ n) : s.ParsesWithin n :=
  h.imp_right fun ⟨hf, hp, hleft⟩ => ⟨hf, hp, hleft.trans hm⟩

theorem processBlock_atBlock_parsesWithin {k : Nat} (svc : BitVec 6) (size : BitVec 5) (hk : 1 ≤ k)
    (h : s.rd.val + k ≤ s.pktLen.val) : (processBlock (s.atBlock k svc size)).ParsesWithin (s.bytesLeft - 1) := by
  obtain hf | hf := Bool.eq_false_or_eq_true (processBlock (s.atBlock k svc size)).fatal
  · exact .inl (.inl hf)
  · have hrd : (s.atBlock k svc size).rd.val = s.rd.val + k := cursor_val_of_le (by omega)
    have hend : (s.atBlock k svc size).rd.val ≤ (s.atBlock k svc size).sbEnd.val := by
      simp only [State.atBlock, cursor_val]
      omega
    have hlen : (s.atBlock k svc size).pktLen = s.pktLen := by
      unfold State.atBlock
      dsimp only
      split <;> rfl
    obtain ⟨hmove, hkeep⟩ := processBlock_onward hend
    refine .inr ⟨hf, processBlock_phase hf, ?_⟩
    rw [State.bytesLeft, State.bytesLeft, hkeep, hlen]
    omega

/-- Every iteration of the block loop stops it or leaves fewer bytes of the packet (R190). -/
theorem parseStep_parsesWithin (s : State) : (parseStep s).ParsesWithin (s.bytesLeft - 1) := by
  unfold parseStep
  dsimp only
  split; · exact .inl (.inr rfl)
  split; · exact .inl (.inr rfl)
  split
  · by_cases hsvc : extService (pktByte s (s.rd.val + 1)) = 0
    · rw [hsvc]
      exact .inl (.inr rfl)
    · rw [sbExt_of_service _ hsvc (by omega)]
      split
      · exact processBlock_atBlock_parsesWithin (s := raise (.extSvcIllegal _) s) _ _ (by omega)
          (by simp only [raise_rd, raise_pktLen]; omega)
      · exact processBlock_atBlock_parsesWithin _ _ (by omega) (by omega)
  split; · exact .inl (.inr rfl)
  · rw [sbStd, takeBlock_advance _ _ (by omega)]
    exact processBlock_atBlock_parsesWithin _ _ le_rfl (by omega)

theorem step_of_parse (hf : s.fatal = false) (hp : s.phase = .parse) : step s = .next (parseStep s) := by
  rw [step_eq_stepInside hf (by simp [hp]), stepInside_parse hf hp]

/-- Steps reach what the block loop answers, where its fuel is no less than the bytes left: one step an iteration,
and one that stops it (R190, R191). -/
theorem parseLoop_run {fuel : Nat} (h : s.ParsesWithin fuel) : ∃ k, runSteps k s = some (parseLoop fuel s) := by
  induction fuel generalizing s with
  | zero =>
    obtain hstopped | ⟨hf, hp, hleft⟩ := h
    · exact ⟨0, by rw [parseLoop_of_stopped 0 hstopped]; rfl⟩
    · have hstop : parseStep s = stopParse s := parseStep_of_short ((Nat.le_zero.1 hleft).trans_lt (by decide))
      refine ⟨1, ?_⟩
      rw [runSteps_succ_of_next (step_of_parse hf hp), hstop, parseLoop_of_stop 0 hf hp hstop]
      rfl
  | succ fuel ih =>
    obtain hstopped | ⟨hf, hp, hleft⟩ := h
    · exact ⟨0, by rw [parseLoop_of_stopped _ hstopped]; rfl⟩
    · obtain ⟨k, hk⟩ := ih ((parseStep_parsesWithin s).mono (by omega))
      exact ⟨k + 1, by rw [runSteps_succ_of_next (step_of_parse hf hp), hk, parseLoop_succ_of_parse fuel hf hp]⟩

end Sys2Proof.Machine
end

section
/-! The statements of 42_service_block_parser.md on the block headers. -/

namespace Sys2Proof.Machine

-- One proof at a time: in parallel they need more threads than the memory limit allows.
set_option Elab.async false

/-- Settles O22: the first iteration of the block loop stops it (`parseLoop_of_stop`). -/
theorem parseEnds : Obligations.ParseEnds := by
  refine ⟨fun s svc hf => live_of_live hf, fun s hf hstop => (live_of_live hf).trans (congrArg _ ?_)⟩
  have hstep : parseStep (enterParse s) = stopParse (enterParse s) := by
    obtain hshort | hnull := hstop
    · exact parseStep_of_short (s := enterParse s) hshort
    · exact parseStep_of_null (s := enterParse s) hnull
  exact parseLoop_of_stop (s := enterParse s) s.pktLen.val hf rfl hstep

/-- Settles O23: both headers end in `abandonPacket`, the extended one after its own event. -/
theorem serviceZeroAbandonsPacket : Obligations.ServiceZeroAbandonsPacket := by
  intro s size hf _
  exact ⟨live_of_live hf, live_of_live hf⟩

/-- Settles O24 by `takeBlock_advance`. -/
theorem standardBlockIsProcessed : Obligations.StandardBlockIsProcessed := by
  intro s svc size hf _ _ _ hrd
  exact ⟨_, live_of_live ((atBlock_fatal 1 _ size s).trans hf),
    (live_of_live hf).trans (congrArg _ (takeBlock_advance _ size hrd))⟩

/-- Settles O25 by `sbExt_of_service`. -/
theorem extendedBlockIsProcessed : Obligations.ExtendedBlockIsProcessed := by
  intro s size svc hf _ hsvc hrd
  refine ⟨_, live_of_live ?_, (live_of_live hf).trans (congrArg _ (sbExt_of_service size hsvc hrd))⟩
  rw [atBlock_fatal]
  split <;> exact hf

/-- Settles O59: the block loop as a whole and step by step are the same (`parseLoop_run`); its fuel is the length of
the packet. -/
theorem parseRunsStepByStep : Obligations.ParseRunsStepByStep := by
  intro s hf
  have hentered : (enterParse s).ParsesWithin s.pktLen.val := .inr ⟨hf, rfl, Nat.sub_le ..⟩
  obtain ⟨k, hk⟩ := parseLoop_run hentered
  exact ⟨k, _, live_of_live hf, hk⟩

end Sys2Proof.Machine
end

section
/-! How the decoder carries out the bytes of one code: all but the last change its registers only, and the last one
emits the code's unit, or none (43_decoder_c0.md R221 to R226, 45_c1_commands.md R270 to R272, 46_extended_codes.md
R311). -/

namespace Sys2Proof.Machine

-- One proof at a time: in parallel they need more threads than the memory limit allows.
set_option Elab.async false

variable {s t u v : State} {b e : Byte} {m n k : Nat} {bytes : List Byte}

/-! ### Nothing but the decoder's registers -/

/-- The state without the decoder's registers (10_state.md R26 to R29). -/
def State.withoutRegisters (s : State) : State :=
  { s with mode := .dataWait, remaining := 0, cmd := 0, extPhase := .code, acc := Vector.replicate 6 0, accN := 0 }

theorem consumed_zero (s : State) : s.consumed 0 = s := by
  have hrd : cursor s.rd.val = s.rd := Fin.ext (cursor_val_of_le (by omega))
  simp [State.consumed, hrd]

theorem consumed_consumed (m n : Nat) (s : State) : (s.consumed m).consumed n = s.consumed (m + n) := by
  have hrd : cursor (min (s.rd.val + m) 128 + n) = cursor (s.rd.val + (m + n)) :=
    Fin.ext (by simp only [cursor_val]; omega)
  simp only [State.consumed, cursor_val, hrd]

/-- `n` bytes are consumed, and but for the decoder's registers nothing else changes. -/
def State.Collects (n : Nat) (s t : State) : Prop := t.withoutRegisters = s.withoutRegisters.consumed n

theorem State.Collects.of_registers (h : t.withoutRegisters = s.withoutRegisters) : s.Collects 0 t :=
  h.trans (consumed_zero _).symm

theorem consumed_collects (n : Nat) (s : State) : s.Collects n (s.consumed n) := rfl

theorem State.Collects.trans (h : s.Collects m t) (g : t.Collects n u) : s.Collects (m + n) u := by
  unfold State.Collects at *
  rw [g, h, consumed_consumed]

theorem State.Collects.cancel (h : s.Collects m t) (g : s.Collects (m + n) u) : t.Collects n u := by
  unfold State.Collects at *
  rw [g, h, consumed_consumed]

theorem State.Collects.fatal (h : s.Collects n t) : t.fatal = s.fatal := (congrArg State.fatal h :)
theorem State.Collects.cfg (h : s.Collects n t) : t.cfg = s.cfg := (congrArg State.cfg h :)
theorem State.Collects.pktBuf (h : s.Collects n t) : t.pktBuf = s.pktBuf := (congrArg State.pktBuf h :)
theorem State.Collects.sbEnd (h : s.Collects n t) : t.sbEnd = s.sbEnd := (congrArg State.sbEnd h :)
theorem State.Collects.rd (h : s.Collects n t) : t.rd = cursor (s.rd.val + n) := (congrArg State.rd h :)

/-! ### The end of a code -/

/-- The units in the output buffer. -/
def State.units (s : State) : List Element :=
  match s.out with
  | none => []
  | some i => ((s.pool[i]?).getD Slot.free).data

theorem unitsEmitted_eq_length (s : State) : unitsEmitted s = s.units.length := by
  unfold unitsEmitted State.units
  cases s.out <;> rfl

/-- What a code is judged by: the halt, the units in the output buffer, the cursors. -/
def State.outcome (s : State) : Bool × List Element × Cursors := (s.fatal, s.units, s.cursors)

theorem State.Collects.units (h : s.Collects n t) : t.units = s.units := (congrArg State.units h :)

theorem raise_outcome (e : Event) (s : State) : (raise e s).outcome = s.outcome := rfl

theorem complete_outcome (s : State) : (complete s).outcome = s.outcome := rfl

theorem classify_outcome (svc : BitVec 6) (ws : BitVec 3) (s : State) : (classify svc ws s).outcome = s.outcome := by
  unfold classify
  dsimp only
  split; · rfl
  split; · rfl
  split <;> rfl

/-- From `u` a unit is emitted, and then lines that do not touch the outcome. -/
def EmitsThen (u t : State) : Prop :=
  ∃ body f, t = (emit body u).andThen f ∧ ∀ v, (f v).outcome = v.outcome

theorem andThen_outcome {g : State → State} (h : t.outcome = s.outcome) (hg : ∀ v, (g v).outcome = v.outcome) :
    (t.andThen g).outcome = s.outcome :=
  andThen_induct (P := fun w => w.outcome = s.outcome) h fun _ hw => (hg _).trans hw

theorem emit_emitsThen (body : Body) (u : State) : EmitsThen u (emit body u) :=
  ⟨body, id, (andThen_induct (P := (· = emit body u)) rfl fun _ h => h).symm, fun _ => rfl⟩

theorem EmitsThen.andThen {g : State → State} (h : EmitsThen u t) (hg : ∀ v, (g v).outcome = v.outcome) :
    EmitsThen u (t.andThen g) := by
  obtain ⟨body, f, rfl, hf⟩ := h
  exact ⟨body, fun v => (f v).andThen g, andThen_andThen .., fun v => andThen_outcome (hf v) hg⟩

/-- From `u` a code ends that yields `k` units, one or none. -/
inductive CodeEnd (u : State) : Nat → State → Prop
  | unit {t : State} (h : EmitsThen u t) : CodeEnd u 1 t
  | noUnit {t : State} (h : t.outcome = u.outcome) : CodeEnd u 0 t

theorem CodeEnd.andThen {g : State → State} (h : CodeEnd u k t) (hg : ∀ v, (g v).outcome = v.outcome) :
    CodeEnd u k (t.andThen g) := by
  cases h with
  | unit h => exact .unit (h.andThen hg)
  | noUnit h => exact .noUnit (andThen_outcome h hg)

theorem c0Single_codeEnd (b : Byte) (s : State) :
    CodeEnd s (if b ∈ s.cfg.c0Known then 1 else 0) (c0Single b s) := by
  unfold c0Single
  split
  · exact .unit (emit_emitsThen _ s)
  · exact .noUnit rfl

theorem c0Complete_codeEnd (s : State) :
    CodeEnd s (if s.cmd = 0x18 then 1 else 0)
      ((if s.cmd = 0x18 then p16Complete s else raise (.unknownC0 s.cmd) s).andThen complete) := by
  refine CodeEnd.andThen ?_ complete_outcome
  split
  · exact .unit ((emit_emitsThen _ s).andThen (raise_outcome _))
  · exact .noUnit rfl

/-- The rule of a C1 code that admissible tables do not reserve emits its unit (45_c1_commands.md R272, R273). -/
theorem c1Rule_emitsThen (hc : s.cfg.c1.admissible = true) (hr : s.cfg.c1.isReserved s.cmd = false) :
    EmitsThen s (c1Rule s) := by
  have hformat : ¬ (0x93 ≤ s.cmd.toNat ∧ s.cmd.toNat ≤ 0x96) := fun h => by
    simp [C1Table.isReserved_of_noFormat hc h] at hr
  unfold c1Rule
  dsimp only
  iterate 7 (split; · exact emit_emitsThen _ s)
  split; · omega
  split; · exact emit_emitsThen _ s
  exact (emit_emitsThen _ s).andThen (classify_outcome _ _)

theorem c1Complete_codeEnd (hc : s.cfg.c1.admissible = true) :
    CodeEnd s (if s.cfg.c1.isReserved s.cmd then 0 else 1) (c1Complete s) := by
  refine CodeEnd.andThen ?_ complete_outcome
  split
  · exact .noUnit rfl
  · next hr => exact .unit (c1Rule_emitsThen hc (by simpa using hr))

theorem c2Complete_codeEnd (s : State) : CodeEnd s 1 (c2Complete s) :=
  .unit (((emit_emitsThen _ s).andThen (raise_outcome _)).andThen complete_outcome)

theorem c3Complete_codeEnd (s : State) : CodeEnd s 1 (c3Complete s) :=
  .unit (((emit_emitsThen _ s).andThen (raise_outcome _)).andThen complete_outcome)

theorem emit_complete_codeEnd (body : Body) (s : State) : CodeEnd s 1 ((emit body s).andThen complete) :=
  .unit ((emit_emitsThen body s).andThen complete_outcome)

/-- `n` bytes are collected, and then the code ends that yields `k` units. -/
def State.Completes (n k : Nat) (s t : State) : Prop := ∃ u, s.Collects n u ∧ CodeEnd u k t

theorem State.Collects.completes (h : s.Collects m t) (g : t.Completes n k v) : s.Completes (m + n) k v := by
  obtain ⟨u, hu, hend⟩ := g
  exact ⟨u, h.trans hu, hend⟩

/-! ### The bytes of a pending code -/

/-- How many units the pending code yields when it completes (42_service_block_parser.md R197). -/
def State.pendingUnits (s : State) : Nat :=
  match s.mode with
  | .c0Pending => if s.cmd = 0x18 then 1 else 0
  | .c1Pending => if s.cfg.c1.isReserved s.cmd then 0 else 1
  | _ => 1

/-- A code is pending that needs `n` bytes more and yields `k` units (10_state.md R27). -/
structure State.Pending (n k : Nat) (s : State) : Prop where
  pending : s.mode ≠ .dataWait
  skip : s.mode = .extendedPending → s.extPhase = .skip
  remaining : s.remaining.val = n
  units : s.pendingUnits = k

theorem State.Pending.consumed (h : s.Pending n k) (m : Nat) : (s.consumed m).Pending n k := ⟨h.1, h.2, h.3, h.4⟩

theorem collect_pending (b : Byte) (h : s.Pending (n + 1) k) : (collect b s).Pending n k where
  pending := h.pending
  skip := h.skip
  remaining := by rw [collect_remaining, payloadCount_pred, h.remaining, Nat.add_sub_cancel]
  units := h.units

theorem countDown_pending (h : s.Pending (n + 1) k) : (countDown s).Pending n k where
  pending := h.pending
  skip := h.skip
  remaining := by rw [countDown_remaining, payloadCount_pred, h.remaining, Nat.add_sub_cancel]
  units := h.units

theorem State.Pending.remaining_ne_zero (h : s.Pending (n + 1) k) : s.remaining ≠ 0 := by
  intro h0
  have := h.remaining
  simp [h0] at this

theorem State.Pending.remaining_eq_zero (h : s.Pending 0 k) : s.remaining = 0 := Fin.ext h.remaining

/-- Before the last byte of a pending code a byte is only collected or counted (R226, R271, R311). -/
theorem decodeByte_of_pending (b : Byte) (h : s.Pending (n + 2) k) :
    s.Collects 0 (decodeByte b s) ∧ (decodeByte b s).Pending (n + 1) k := by
  have hcollect := collect_pending b h
  have hcount := countDown_pending h
  suffices heq : decodeByte b s = collect b s ∨ decodeByte b s = countDown s by
    obtain heq | heq := heq <;> rw [heq]
    · exact ⟨.of_registers rfl, hcollect⟩
    · exact ⟨.of_registers rfl, hcount⟩
  unfold decodeByte
  split
  · next hm => exact absurd hm h.pending
  · exact .inl (if_neg hcollect.remaining_ne_zero)
  · exact .inl (if_neg hcollect.remaining_ne_zero)
  · next hm =>
    simp only [extByte, h.skip hm]
    exact .inr (if_neg hcount.remaining_ne_zero)

/-- The last byte of a pending code ends it. -/
theorem decodeByte_of_pending_last (b : Byte) (hc : s.cfg.c1.admissible = true) (h : s.Pending 1 k) :
    s.Completes 0 k (decodeByte b s) := by
  have hcollect := (collect_pending b h).remaining_eq_zero
  have hcount := (countDown_pending h).remaining_eq_zero
  have hk := h.units
  unfold State.pendingUnits at hk
  unfold decodeByte
  split
  · next hm => exact absurd hm h.pending
  · next hm =>
    simp only [hm] at hk
    refine ⟨collect b s, .of_registers rfl, ?_⟩
    rw [c0Byte, if_pos hcollect, ← hk]
    exact c0Complete_codeEnd (collect b s)
  · next hm =>
    simp only [hm] at hk
    refine ⟨collect b s, .of_registers rfl, ?_⟩
    rw [c1Byte, if_pos hcollect, ← hk]
    exact c1Complete_codeEnd (s := collect b s) hc
  · next hm =>
    simp only [hm] at hk
    refine ⟨countDown s, .of_registers rfl, ?_⟩
    simp only [extByte, h.skip hm]
    rw [extSkipByte, if_pos hcount, ← hk]
    split
    · exact c2Complete_codeEnd (countDown s)
    · exact c3Complete_codeEnd (countDown s)

/-- Fewer bytes than the pending code needs are collected, and it is still pending. -/
theorem feed_of_pending_cut (bytes : List Byte) (hf : s.fatal = false) (h : s.Pending n k) (hlen : bytes.length < n) :
    s.Collects bytes.length (feed bytes s) ∧ (feed bytes s).mode ≠ .dataWait := by
  induction bytes generalizing s n with
  | nil => exact ⟨.of_registers rfl, h.pending⟩
  | cons b rest ih =>
    rw [List.length_cons] at hlen
    obtain ⟨m, rfl⟩ : ∃ m, n = m + 2 := ⟨n - 2, by omega⟩
    obtain ⟨hbyte, hnext⟩ := decodeByte_of_pending b (h.consumed 1)
    have hone : s.Collects 1 (consume b s) := (consumed_collects 1 s).trans hbyte
    obtain ⟨hrest, hmode⟩ := ih (hone.fatal.trans hf) hnext (by omega)
    rw [feed_cons_of_live hf, List.length_cons, Nat.add_comm]
    exact ⟨hone.trans hrest, hmode⟩

/-- As many bytes as the pending code needs end it. -/
theorem feed_of_pending (bytes : List Byte) (hne : bytes ≠ []) (hc : s.cfg.c1.admissible = true)
    (hf : s.fatal = false) (h : s.Pending bytes.length k) : s.Completes bytes.length k (feed bytes s) := by
  induction bytes generalizing s with
  | nil => exact absurd rfl hne
  | cons b rest ih =>
    rw [feed_cons_of_live hf, List.length_cons, Nat.add_comm]
    cases rest with
    | nil => exact (consumed_collects 1 s).completes (decodeByte_of_pending_last b hc (h.consumed 1))
    | cons b' rest =>
      obtain ⟨hbyte, hnext⟩ := decodeByte_of_pending b (h.consumed 1)
      have hone : s.Collects 1 (consume b s) := (consumed_collects 1 s).trans hbyte
      exact hone.completes (ih (List.cons_ne_nil _ _) (by rwa [hone.cfg]) (hone.fatal.trans hf) hnext)

/-! ### The first bytes of a code -/

/-- A code has begun that needs `n` bytes more and yields `k` units: it is pending, or where it needs none it has
ended. -/
def State.Begins (n k : Nat) (s t : State) : Prop :=
  (n = 0 ∧ s.Completes 0 k t) ∨ (n ≠ 0 ∧ s.Collects 0 t ∧ t.Pending n k)

/-- The rest of a code that has begun ends it. -/
theorem State.Begins.feed (h : s.Begins bytes.length k t) (hc : s.cfg.c1.admissible = true) (hf : s.fatal = false) :
    s.Completes bytes.length k (Machine.feed bytes t) := by
  obtain ⟨hlen, hend⟩ | ⟨hlen, hcollect, hp⟩ := h
  · obtain rfl := List.eq_nil_of_length_eq_zero hlen
    exact hend
  · have hrest := feed_of_pending bytes (List.ne_nil_of_length_pos (by omega)) (by rwa [hcollect.cfg])
      (hcollect.fatal.trans hf) hp
    have hall := hcollect.completes hrest
    rwa [Nat.zero_add] at hall

/-- A part of the rest leaves it pending. -/
theorem State.Begins.feed_cut (h : s.Begins n k t) (hlen : bytes.length < n) (hf : s.fatal = false) :
    s.Collects bytes.length (Machine.feed bytes t) ∧ (Machine.feed bytes t).mode ≠ .dataWait := by
  obtain ⟨hn, -⟩ | ⟨-, hcollect, hp⟩ := h
  · omega
  · obtain ⟨hrest, hmode⟩ := feed_of_pending_cut bytes (hcollect.fatal.trans hf) hp hlen
    have hall := hcollect.trans hrest
    rw [Nat.zero_add] at hall
    exact ⟨hall, hmode⟩

/-- How many units a code with the first byte `b` yields when it completes, `b` not being EXT1
(42_service_block_parser.md R197). -/
def plainUnits (p : Params) (b : Byte) : Nat :=
  if b.toNat ≤ 0x0F then (if b ∈ p.c0Known then 1 else 0)
  else if b.toNat ≤ 0x1F then (if b = 0x18 then 1 else 0)
  else if b.toNat ≤ 0x7F then 1
  else if b.toNat ≤ 0x9F then (if p.c1.isReserved b then 0 else 1)
  else 1

variable {p : Params}

theorem plainUnits_c0Single (h : b.toNat ≤ 0x0F) : plainUnits p b = if b ∈ p.c0Known then 1 else 0 := if_pos h

theorem plainUnits_c0Pending (h : 0x10 ≤ b.toNat ∧ b.toNat ≤ 0x1F) :
    plainUnits p b = if b = 0x18 then 1 else 0 := by
  rw [plainUnits, if_neg (by omega), if_pos h.2]

theorem plainUnits_g0 (h : 0x20 ≤ b.toNat ∧ b.toNat ≤ 0x7F) : plainUnits p b = 1 := by
  rw [plainUnits, if_neg (by omega), if_neg (by omega), if_pos h.2]

theorem plainUnits_c1 (h : 0x80 ≤ b.toNat ∧ b.toNat ≤ 0x9F) :
    plainUnits p b = if p.c1.isReserved b then 0 else 1 := by
  rw [plainUnits, if_neg (by omega), if_neg (by omega), if_neg (by omega), if_pos h.2]

theorem plainUnits_g1 (h : 0xA0 ≤ b.toNat) : plainUnits p b = 1 := by
  rw [plainUnits, if_neg (by omega), if_neg (by omega), if_neg (by omega), if_neg (by omega)]

/-- A code of one byte. -/
theorem CodeEnd.begins (h : CodeEnd s k t) : s.Begins 0 k t := .inl ⟨rfl, s, .of_registers rfl, h⟩

theorem enterPending_begins {len : PayloadCount} (h : len.val ≠ 0) (b : Byte) (s : State) :
    s.Begins len.val (if b = 0x18 then 1 else 0) (enterPending .c0Pending b len s) :=
  .inr ⟨h, .of_registers rfl, by simp [enterPending], by simp [enterPending], rfl, rfl⟩

/-- Where the first bytes leave `r` bytes needed, the code has ended or it is pending (R270, R311). -/
theorem begins_ite {r : PayloadCount} (ht : CodeEnd u k t) (hp : v.Pending r.val k) (hu : s.Collects 0 u)
    (hv : s.Collects 0 v) (hr : r.val = n) : s.Begins n k (if r = 0 then t else v) := by
  subst hr
  split
  · next h0 => exact .inl ⟨by rw [h0]; rfl, u, hu, ht⟩
  · next h0 => exact .inr ⟨fun h => h0 (Fin.ext h), hv, hp⟩

theorem c1Entry_begins (hc : s.cfg.c1.admissible = true) (b : Byte) :
    s.Begins (s.cfg.c1.lenOf b - 1) (if s.cfg.c1.isReserved b then 0 else 1) (c1Entry b s) := by
  obtain ⟨-, hmax⟩ := C1Table.lenOf_bounds hc b
  exact begins_ite
    (c1Complete_codeEnd (s := { s with cmd := b, accN := 0, remaining := payloadCount (s.cfg.c1.lenOf b - 1) }) hc)
    ⟨nofun, nofun, rfl, rfl⟩ (.of_registers rfl) (.of_registers rfl) (payloadCount_val_of_le (by omega))

/-- The first byte of a code other than EXT1 (R98, R223). -/
theorem dataWaitByte_begins (hc : s.cfg.c1.admissible = true) (hb : b ≠ 0x10) :
    s.Begins (totalLen s.cfg.c1 b - 1) (plainUnits s.cfg b) (dataWaitByte b s) := by
  unfold dataWaitByte
  dsimp only
  split
  · next h =>
    rw [totalLen_c0Single h, plainUnits_c0Single h]
    exact (c0Single_codeEnd b s).begins
  split
  · bv_omega
  split
  · rw [totalLen_c0Two (by omega), plainUnits_c0Pending (by omega)]
    exact enterPending_begins (len := 1) (by decide) b s
  split
  · rw [totalLen_c0Three (by omega), plainUnits_c0Pending (by omega)]
    exact enterPending_begins (len := 2) (by decide) b s
  split
  · rw [totalLen_g0 (by omega), plainUnits_g0 (by omega)]
    exact (CodeEnd.unit (emit_emitsThen _ s)).begins
  split
  · rw [totalLen_c1 (by omega), plainUnits_c1 (by omega)]
    exact c1Entry_begins hc b
  · rw [totalLen_g1 (by omega), plainUnits_g1 (by omega)]
    exact (CodeEnd.unit (emit_emitsThen _ s)).begins

/-- The byte after EXT1, of a code that does not skip the rest of its block (R99, R311). -/
theorem extCodeByte_begins (hm : s.mode = .extendedPending) (he : ¬ (0x90 ≤ e.toNat ∧ e.toNat ≤ 0x9F)) :
    s.Begins (totalLenExtended e - 2) 1 (extCodeByte e s) := by
  unfold extCodeByte
  dsimp only
  split
  · next h =>
    rw [totalLenExtended_c2 h, Nat.add_sub_cancel_left]
    exact begins_ite (c2Complete_codeEnd _) ⟨by simp [hm], by simp, rfl, by simp [State.pendingUnits, hm]⟩
      (.of_registers rfl) (.of_registers rfl) (payloadCount_val_of_le (c2Extra_le e))
  split
  · rw [totalLenExtended_char (by omega)]
    exact (emit_complete_codeEnd _ s).begins
  split
  · obtain ⟨hpos, hle⟩ := c3Extra_bounds e
    rw [totalLenExtended_c3 (by omega), Nat.add_sub_cancel_left]
    exact .inr ⟨hpos, .of_registers rfl, by simp [hm], by simp, payloadCount_val_of_le hle,
      by simp [State.pendingUnits, hm]⟩
  split
  · omega
  · rw [totalLenExtended_char (by omega)]
    exact (emit_complete_codeEnd _ s).begins

/-! ### The bytes of one code -/

/-- Whether the bytes are those of an extended code that skips the rest of its block (46_extended_codes.md R320). -/
def skipsBlock : List Byte → Bool
  | b :: e :: _ => b == 0x10 && decide (0x90 ≤ e.toNat ∧ e.toNat ≤ 0x9F)
  | _ => false

/-- How many units the bytes of a code that does not skip its block yield. -/
def codeUnits (p : Params) : List Byte → Nat
  | [] => 0
  | b :: _ => if b = 0x10 then 1 else plainUnits p b

theorem consume_begins (hc : s.cfg.c1.admissible = true) (hm : s.mode = .dataWait) (hb : b ≠ 0x10) :
    (s.consumed 1).Begins (totalLen s.cfg.c1 b - 1) (plainUnits s.cfg b) (consume b s) := by
  rw [consume_dataWait b hm]
  exact dataWaitByte_begins (s := s.consumed 1) hc hb

/-- After EXT1 the decoder waits for the extended code byte (R223). -/
theorem consume_ext1 (hm : s.mode = .dataWait) :
    s.Collects 1 (consume 0x10 s) ∧ (consume 0x10 s).mode = .extendedPending ∧
      (consume 0x10 s).extPhase = .code := by
  rw [consume_dataWait 0x10 hm]
  exact ⟨rfl, rfl, rfl⟩

theorem consume_extCode_begins (hm : s.mode = .extendedPending) (hp : s.extPhase = .code)
    (he : ¬ (0x90 ≤ e.toNat ∧ e.toNat ≤ 0x9F)) :
    (s.consumed 1).Begins (totalLenExtended e - 2) 1 (consume e s) := by
  rw [consume_extCode e hm hp]
  exact extCodeByte_begins (s := s.consumed 1) hm he

/-- The bytes of a code that does not skip its block carry it to its end (R221, R225). -/
theorem feed_codeBytes (hc : s.cfg.c1.admissible = true) (hf : s.fatal = false) (hm : s.mode = .dataWait)
    (hbytes : CodeBytes s.cfg.c1 bytes) (hskip : skipsBlock bytes = false) :
    s.Completes bytes.length (codeUnits s.cfg bytes) (feed bytes s) := by
  cases hbytes with
  | @plain b rest hb hlen =>
    have hbegins := consume_begins hc hm hb
    rw [← hlen, Nat.add_sub_cancel] at hbegins
    rw [feed_cons_of_live hf, List.length_cons, Nat.add_comm, codeUnits, if_neg hb]
    exact (consumed_collects 1 s).completes (hbegins.feed hc hf)
  | @extended e rest hlen =>
    obtain ⟨hext, hmode, hphase⟩ := consume_ext1 hm
    have he : ¬ (0x90 ≤ e.toNat ∧ e.toNat ≤ 0x9F) := by simpa [skipsBlock] using hskip
    have hbegins := consume_extCode_begins hmode hphase he
    rw [← hlen, Nat.add_sub_cancel] at hbegins
    rw [feed_cons_of_live hf, feed_cons_of_live (hext.fatal.trans hf), List.length_cons, List.length_cons,
      Nat.add_comm, Nat.add_comm rest.length, codeUnits, if_pos rfl]
    have hc' : (consume 0x10 s).cfg.c1.admissible = true := by rwa [hext.cfg]
    exact hext.completes ((consumed_collects 1 _).completes (hbegins.feed hc' (hext.fatal.trans hf)))

/-- A part of the bytes of a code leaves it pending (R224). -/
theorem feed_codeBytes_cut (hc : s.cfg.c1.admissible = true) (hf : s.fatal = false) (hm : s.mode = .dataWait)
    (hbytes : CodeBytes s.cfg.c1 bytes) {j : Nat} (hj : j + 1 < bytes.length) :
    s.Collects (j + 1) (feed (bytes.take (j + 1)) s) ∧ (feed (bytes.take (j + 1)) s).mode ≠ .dataWait := by
  cases hbytes with
  | @plain b rest hb hlen =>
    have hbegins := consume_begins hc hm hb
    rw [List.length_cons] at hj
    have htake : (rest.take j).length = j := List.length_take_of_le (by omega)
    obtain ⟨hrest, hmode⟩ := hbegins.feed_cut (bytes := rest.take j) (by omega) hf
    rw [List.take_succ_cons, feed_cons_of_live hf, Nat.add_comm]
    rw [htake] at hrest
    exact ⟨(consumed_collects 1 s).trans hrest, hmode⟩
  | @extended e rest hlen =>
    obtain ⟨hext, hmode, hphase⟩ := consume_ext1 hm
    rw [List.take_succ_cons, feed_cons_of_live hf]
    cases j with
    | zero => exact ⟨hext, by rw [List.take_zero, feed_nil, hmode]; nofun⟩
    | succ j =>
      simp only [List.length_cons] at hj
      have htake : (rest.take j).length = j := List.length_take_of_le (by omega)
      have he : ¬ (0x90 ≤ e.toNat ∧ e.toNat ≤ 0x9F) := fun h => by
        rw [totalLenExtended_char (.inr h.1)] at hlen
        omega
      obtain ⟨hrest, hpending⟩ := (consume_extCode_begins hmode hphase he).feed_cut (bytes := rest.take j)
        (by omega) (hext.fatal.trans hf)
      rw [htake] at hrest
      rw [List.take_succ_cons, feed_cons_of_live (hext.fatal.trans hf), Nat.add_comm, Nat.add_comm j]
      exact ⟨hext.trans ((consumed_collects 1 _).trans hrest), hpending⟩

end Sys2Proof.Machine
end

section
/-! A code that yields a unit where there is no room for one (42_service_block_parser.md R198 (c), 40_buffer_fanout.md
R132, 60_exceptions.md R370). -/

namespace Sys2Proof.Machine

-- One proof at a time: in parallel they need more threads than the memory limit allows.
set_option Elab.async false

variable {s t u : State} {n : Nat} {i : Instr} {bytes : List Byte}

/-! ### No room for a unit -/

/-- Without an output buffer, or with a full one, a unit is fatal (R132, R198 (c)). -/
theorem emit_of_noRoom (body : Body) (h : s.noRoom) : emit body s = raiseFatal .countMismatch s := by
  obtain hnone | ⟨i, p, hout, hp, huse, hfull⟩ := h
  · simp only [emit, hnone]
  · simp only [emit, hout, append, withSlot_of_some (slotOf_eq_some.2 ⟨rfl, hp, huse⟩), if_pos hfull]

theorem State.Collects.noRoom (h : s.Collects n t) (hs : s.noRoom) : t.noRoom := by
  have hout : t.out = s.out := (congrArg State.out h :)
  have hpool : t.pool = s.pool := (congrArg State.pool h :)
  unfold State.noRoom
  rwa [hout, hpool]

/-- So is a code that yields a unit, before any line after the unit (R370). -/
theorem State.Completes.of_noRoom (h : s.Completes n 1 t) (hs : s.noRoom) :
    ∃ u, s.Collects n u ∧ t = raiseFatal .countMismatch u := by
  obtain ⟨u, hu, hend⟩ := h
  cases hend with
  | unit hemits =>
    obtain ⟨body, f, rfl, -⟩ := hemits
    exact ⟨u, hu, by rw [emit_of_noRoom body (hu.noRoom hs), andThen_of_halted (raiseFatal_fatal ..)]⟩

/-- States that agree but for the decoder's registers. -/
theorem eq_of_withoutRegisters (h : u.withoutRegisters = t.withoutRegisters) :
    u = { t with
      mode := u.mode, remaining := u.remaining, cmd := u.cmd, extPhase := u.extPhase, acc := u.acc, accN := u.accN } :=
  (congrArg (fun w : State => { w with
    mode := u.mode, remaining := u.remaining, cmd := u.cmd, extPhase := u.extPhase, acc := u.acc, accN := u.accN }) h :)

/-! ### Which codes yield a unit -/

theorem level_of_yieldsUnit {known : List Byte} (h : yieldsUnit known i = true) : i.level = .code := by
  cases i with
  | ps | psInvalid | pd | pdInvalid | f1 | f2 | pktHdr | sbNull | sbSvc0 | sbStd | sbExt => cases h
  | allocate | append | setTimestamp | addReader | release | dispatch | shutdown | registerSink => cases h
  | accept | terminate | reset | flush | parseBlocks | processBlock => cases h
  | _ => rfl

/-- The units of a code's bytes are those of its kind (R197). -/
theorem codeUnits_encode {p : Params} (tags : Tags) (hw : i.wf p.c1 = true) (hy : yieldsUnit p.c0Known i = true) :
    codeUnits p (encode tags i) = 1 ∧ skipsBlock (encode tags i) = false := by
  have hrange : i.inRange = true := (Bool.and_eq_true_iff.1 hw).1
  cases i with
  | nul | etx | bs | ff | cr | hcr =>
    have hknown := List.contains_iff_mem.1 hy
    exact ⟨if_pos hknown, rfl⟩
  | c0Unk1 b =>
    have hknown := List.contains_iff_mem.1 hy
    have hle : b.toNat ≤ 0x0F := by
      simp only [Instr.inRange, Bool.and_eq_true, Byte.within_iff] at hrange
      omega
    refine ⟨?_, rfl⟩
    rw [encode, codeUnits, if_neg (by bv_omega), plainUnits_c0Single hle, if_pos hknown]
  | ext1C20 e | ext1C21 e | ext1C22 e | ext1C23 e | ext1G2 e | ext1C34 e | ext1C35 e | ext1G3 e =>
    have he := Byte.within_iff.1 hrange
    refine ⟨rfl, ?_⟩
    simp only [encode, skipsBlock, BEq.rfl, Bool.true_and, decide_eq_false_iff_not]
    omega
  | p16 => exact ⟨rfl, rfl⟩
  | g0 b =>
    have hb := Byte.within_iff.1 hrange
    exact ⟨by rw [encode, codeUnits, if_neg (by bv_omega), plainUnits_g0 hb], rfl⟩
  | g1 b =>
    have hb := Byte.within_iff.1 hrange
    exact ⟨by rw [encode, codeUnits, if_neg (by bv_omega), plainUnits_g1 hb.1], rfl⟩
  | cw0 | cw1 | cw2 | cw3 | cw4 | cw5 | cw6 | cw7 | clw | dsw | hdw | tgw | dlw | dly | dlc | rst | spa
  | spc | spl | swa | df0 | df1 | df2 | df3 | df4 | df5 | df6 | df7 =>
    have hr := Instr.c1Code_not_reserved rfl hw
    refine ⟨?_, rfl⟩
    rw [encode, codeUnits, if_neg (by decide), plainUnits_c1 (by decide), hr]
    rfl
  | _ => cases hy

theorem length_encode (i : Instr) (tags : Tags) : (encode tags i).length = i.tableLength := by
  cases i with
  | c1Rsv r => exact Nat.add_comm _ 1
  | _ => rfl

/-- Bytes that lie in the block and carry the decoder to a halt are the whole meaning of their code. -/
theorem code_of_halted (hf : s.fatal = false) (hfits : s.rd.val + bytes.length ≤ s.sbEnd.val)
    (hfeed : feed bytes s = raiseFatal .countMismatch u) :
    code bytes s = .next (raiseFatal .countMismatch u) := by
  rw [code, live_of_live hf, runCode_of_fits hfits, hfeed, andThen_of_halted (raiseFatal_fatal ..)]

/-- The payload of a code of three bytes (10_state.md R29). -/
theorem accWith_pair (p1 p2 : Byte) (acc : Vector Byte 6) :
    (acc.setIfInBounds 0 p1).setIfInBounds 1 p2 = accWith [p1, p2] acc := by
  refine Vector.ext fun k hk => ?_
  match k with
  | 0 => simp [accWith]
  | 1 => simp [accWith]
  | k + 2 => simp [accWith]

theorem consume_g0 {b : Byte} (hm : s.mode = .dataWait) (hb : 0x20 ≤ b.toNat ∧ b.toNat ≤ 0x7F) :
    consume b s = g0Char b (s.consumed 1) := by
  rw [consume_dataWait b hm, dataWaitByte]
  dsimp only
  rw [if_neg (by omega), if_neg (by omega), if_neg (by omega), if_neg (by omega), if_pos hb.2]
  rfl

/-- The state in which P16 emits its unit (43_decoder_c0.md R239). -/
def State.atP16 (p1 p2 : Byte) (s : State) : State :=
  { s.consumed 3 with
    mode := .c0Pending, cmd := 0x18, remaining := 0, accN := 2, acc := accWith [p1, p2] s.acc }

/-- The two payload bytes of P16, collected (R226). -/
theorem collect_p16 (p1 p2 : Byte) (s : State) :
    collect p2 ((collect p1 ((enterPending .c0Pending 0x18 2 (s.consumed 1)).consumed 1)).consumed 1) =
      s.atP16 p1 p2 := by
  have hrd : cursor ((cursor ((cursor (s.rd.val + 1)).val + 1)).val + 1) = cursor (s.rd.val + 3) :=
    Fin.ext (by simp only [cursor_val]; omega)
  have hacc : (s.acc.setIfInBounds 0 p1).setIfInBounds 1 p2 = accWith [p1, p2] s.acc := accWith_pair p1 p2 s.acc
  unfold State.atP16
  simp only [State.consumed]
  rw [← hrd, ← hacc]
  rfl

theorem feed_p16 (p1 p2 : Byte) (hf : s.fatal = false) (hm : s.mode = .dataWait) :
    feed [0x18, p1, p2] s = (p16Complete (s.atP16 p1 p2)).andThen complete := by
  have hfirst : consume 0x18 s = enterPending .c0Pending 0x18 2 (s.consumed 1) := consume_dataWait 0x18 hm
  rw [feed_cons_of_live hf, hfirst, feed_cons_of_live (by exact hf), feed_cons_of_live (by exact hf), feed_nil,
    ← collect_p16]
  rfl

/-- Settles O44: every such code completes by `feed_codeBytes` and halts by `State.Completes.of_noRoom`. -/
theorem unitWithoutRoomIsFatal : Obligations.UnitWithoutRoomIsFatal := by
  intro s hs
  refine ⟨fun ins hc hw hy hat => ?anyCode, fun b hlo hhi hat => ?g0, fun p1 p2 hat => ?p16⟩
  case anyCode =>
    obtain ⟨hf, hm, hfits⟩ := hat
    have hl := level_of_yieldsUnit hy
    have hlen : (encode s.cfg.tags ins).length = ins.tableLength := length_encode ins s.cfg.tags
    obtain ⟨hunits, hskip⟩ := codeUnits_encode s.cfg.tags hw hy
    have hcompletes := feed_codeBytes hc hf hm (encode_codeBytes s.cfg.tags hc hw hl) hskip
    rw [hunits, hlen] at hcompletes
    obtain ⟨u, hu, hfeed⟩ := hcompletes.of_noRoom hs
    exact ⟨u, (exec_of_level_code s.cfg.tags hl s).trans (code_of_halted hf (hlen.symm ▸ hfits) hfeed),
      eq_of_withoutRegisters hu⟩
  case g0 =>
    obtain ⟨hf, hm, hfits⟩ := hat
    refine code_of_halted (bytes := [b]) hf hfits ?_
    rw [feed_cons_of_live hf, feed_nil, consume_g0 hm ⟨hlo, hhi⟩]
    exact emit_of_noRoom _ ((consumed_collects 1 s).noRoom hs)
  case p16 =>
    obtain ⟨hf, hm, hfits⟩ := hat
    refine code_of_halted (bytes := [0x18, p1, p2]) hf hfits ?_
    have hroom : (s.atP16 p1 p2).noRoom := hs
    rw [feed_p16 p1 p2 hf hm, p16Complete, emit_of_noRoom _ hroom, andThen_of_halted (raiseFatal_fatal ..),
      andThen_of_halted (raiseFatal_fatal ..)]
    rfl

end Sys2Proof.Machine
end

section
/-! The bytes of a block: the pre-scan and the decoder cut them into the same codes (42_service_block_parser.md R197,
R201, 43_decoder_c0.md R221). -/

namespace Sys2Proof.Machine

-- One proof at a time: in parallel they need more threads than the memory limit allows.
set_option Elab.async false

variable {s t u : State} {b e : Byte} {m n k : Nat} {bytes code rest : List Byte} {p : Params}

/-! ### The bytes ahead -/

theorem pktBytes_congr {lo hi : Nat} (h : t.pktBuf = s.pktBuf) : pktBytes t lo hi = pktBytes s lo hi := by
  simp only [pktBytes, pktByte, h]

theorem pktBytes_of_lt {lo hi : Nat} (h : lo < hi) : pktBytes s lo hi = pktByte s lo :: pktBytes s (lo + 1) hi := by
  have hlen : hi - lo = (hi - (lo + 1)) + 1 := by omega
  simp [pktBytes, hlen, List.range_succ_eq_map, Nat.add_assoc, Nat.add_comm 1]

/-- The bytes of the block that are ahead of the decoder. -/
def State.bytesAhead (s : State) : List Byte := pktBytes s s.rd.val s.sbEnd.val

theorem length_bytesAhead (s : State) : s.bytesAhead.length = s.ahead := length_pktBytes ..

theorem rd_lt_of_bytesAhead (h : s.bytesAhead = b :: rest) : s.rd.val < s.sbEnd.val := by
  have hlen := length_bytesAhead s
  rw [h, List.length_cons, State.ahead] at hlen
  omega

theorem pktByte_of_bytesAhead (h : s.bytesAhead = b :: rest) : pktByte s s.rd.val = b := by
  rw [State.bytesAhead, pktBytes_of_lt (rd_lt_of_bytesAhead h)] at h
  exact (List.cons.inj h).1

theorem drop_pktBytes (k lo hi : Nat) : (pktBytes s lo hi).drop k = pktBytes s (lo + k) hi := by
  refine List.ext_getElem (by simp; omega) fun j hj hj' => ?_
  simp [pktBytes, Nat.add_assoc]

/-- Behind a code the bytes ahead are those after it. -/
theorem bytesAhead_behind (hrd : t.rd = cursor (s.rd.val + code.length)) (hend : t.sbEnd = s.sbEnd)
    (hbuf : t.pktBuf = s.pktBuf) (hb : s.bytesAhead = code ++ rest) : t.bytesAhead = rest := by
  have hlen := congrArg List.length hb
  rw [length_bytesAhead, List.length_append, State.ahead] at hlen
  have hval : t.rd.val = s.rd.val + code.length := by
    rw [hrd, cursor_val]
    omega
  rw [State.bytesAhead, hval, hend, pktBytes_congr hbuf, ← drop_pktBytes]
  exact (congrArg (List.drop code.length) hb).trans List.drop_left

theorem State.Collects.bytesAhead (h : s.Collects code.length t) (hb : s.bytesAhead = code ++ rest) :
    t.bytesAhead = rest :=
  bytesAhead_behind h.rd h.sbEnd h.pktBuf hb

/-! ### The loop and the feed -/

theorem decodeLoop_of_end (fuel : Nat) (h : s.sbEnd.val ≤ s.rd.val) : decodeLoop fuel s = s := by
  cases fuel with
  | zero => rfl
  | succ fuel => simp [decodeLoop, Nat.not_lt.2 h]

/-- The loop of `DecodeBlock` feeds the decoder a code of which every part only is collected (R221). -/
theorem decodeLoop_eq_feed (fuel : Nat) (code : List Byte) (hf : s.fatal = false) (hb : s.bytesAhead = code ++ rest)
    (hcut : ∀ j, j < code.length → s.Collects j (feed (code.take j) s)) :
    decodeLoop (fuel + code.length) s = decodeLoop fuel (feed code s) := by
  induction code generalizing s with
  | nil => rfl
  | cons b code ih =>
    have hbyte := pktByte_of_bytesAhead hb
    have hloop : decodeLoop (fuel + (b :: code).length) s = decodeLoop (fuel + code.length) (consume b s) := by
      simp [List.length_cons, ← Nat.add_assoc, decodeLoop, hf, rd_lt_of_bytesAhead hb, hbyte]
    rw [hloop, feed_cons_of_live hf]
    cases code with
    | nil => rfl
    | cons b' code =>
      have hone : s.Collects 1 (consume b s) := by
        have h := hcut 1 (by simp)
        rwa [List.take_succ_cons, List.take_zero, feed_cons_of_live hf] at h
      refine ih (hone.fatal.trans hf) (State.Collects.bytesAhead (code := [b]) hone hb) fun j hj => ?_
      have h := hcut (j + 1) (by simpa using hj)
      rw [List.take_succ_cons, feed_cons_of_live hf, Nat.add_comm] at h
      exact hone.cancel h

theorem decodeBlock_eq_feed (hf : s.fatal = false) (hb : s.bytesAhead = code ++ rest)
    (hcut : ∀ j, j < code.length → s.Collects j (feed (code.take j) s)) :
    decodeBlock s = (decodeLoop rest.length (feed code s)).andThen endOfBytes := by
  have hlen := congrArg List.length hb
  rw [length_bytesAhead, List.length_append, Nat.add_comm] at hlen
  rw [decodeBlock, ← decodeLoop_eq_feed rest.length code hf hb hcut, ← hlen]
  rfl

/-! ### The codes that the pre-scan counts -/

/-- Under admissible parameters the pre-scan counts what the decoder emits, code by code (R197). -/
theorem plainUnits_eq_emitsUnit (hk : b ∈ p.c0Known → b.toNat < 0x10) :
    plainUnits p b = if emitsUnit p b then 1 else 0 := by
  have hrow : emitsUnit p b = true ↔
      b ∈ p.c0Known ∨ b = 0x18 ∨ (0x20 ≤ b.toNat ∧ b.toNat ≤ 0x7F) ∨ 0xA0 ≤ b.toNat ∨
        ((0x80 ≤ b.toNat ∧ b.toNat ≤ 0x9F) ∧ p.c1.isReserved b = false) := by
    simp [emitsUnit, or_assoc]
  have h18 : b = 0x18 ↔ b.toNat = 0x18 := by bv_omega
  unfold plainUnits
  split_ifs <;> grind

/-- What stands at the head of a block, and what the pre-scan makes of it (R197). -/
inductive BlockHead (p : Params) (bytes : List Byte) : Prop
  /-- a whole code, and the pre-scan goes on behind it -/
  | whole (code rest : List Byte) (hbytes : bytes = code ++ rest) (hcode : CodeBytes p.c1 code)
    (hskip : skipsBlock code = false)
    (hcount : ∀ fuel, preCountBytes p (fuel + 1) bytes = codeUnits p code + preCountBytes p fuel rest)
  /-- a code that skips the rest of the block (R320) -/
  | skips (e : Byte) (rest : List Byte) (hbytes : bytes = [0x10, e] ++ rest) (he : 0x90 ≤ e.toNat ∧ e.toNat ≤ 0x9F)
    (hcount : ∀ fuel, preCountBytes p (fuel + 1) bytes = 0)
  /-- a code that the block cuts off -/
  | cut (code rest : List Byte) (hcode : CodeBytes p.c1 code) (hbytes : code = bytes ++ rest) (hrest : rest ≠ [])
    (hcount : ∀ fuel, preCountBytes p (fuel + 1) bytes = 0)

theorem one_le_totalLen {c : C1Table} (hc : c.admissible = true) (b : Byte) : 1 ≤ totalLen c b := by
  obtain ⟨hpos, -⟩ := C1Table.lenOf_bounds hc b
  unfold totalLen
  split_ifs <;> omega

theorem two_le_totalLenExtended (e : Byte) : 2 ≤ totalLenExtended e := by
  unfold totalLenExtended
  split_ifs <;> omega

theorem preCountBytes_plain (fuel : Nat) (hb : b ≠ 0x10) (rest : List Byte) :
    preCountBytes p (fuel + 1) (b :: rest) =
      if rest.length + 1 < totalLen p.c1 b then 0
      else (if emitsUnit p b then 1 else 0) + preCountBytes p fuel ((b :: rest).drop (totalLen p.c1 b)) :=
  if_neg hb

theorem preCountBytes_extended (fuel : Nat) (e : Byte) (rest : List Byte) :
    preCountBytes p (fuel + 1) (0x10 :: e :: rest) =
      if 0x90 ≤ e.toNat ∧ e.toNat ≤ 0x9F then 0
      else if rest.length + 2 < totalLenExtended e then 0
      else 1 + preCountBytes p fuel ((0x10 :: e :: rest).drop (totalLenExtended e)) :=
  if_pos rfl

theorem skipsBlock_of_plain (hb : b ≠ 0x10) (rest : List Byte) : skipsBlock (b :: rest) = false := by
  cases rest with
  | nil => rfl
  | cons e rest => rw [skipsBlock, beq_false_of_ne hb, Bool.false_and]

theorem blockHead_plain (hc : p.c1.admissible = true) (hk : b ∈ p.c0Known → b.toNat < 0x10) (hb : b ≠ 0x10)
    (rest : List Byte) : BlockHead p (b :: rest) := by
  obtain ⟨len, hlen⟩ := Nat.exists_eq_add_of_le' (one_le_totalLen hc b)
  by_cases hcut : rest.length < len
  · refine .cut (b :: (rest ++ List.replicate (len - rest.length) 0)) _ (.plain hb ?_) rfl ?_ fun fuel => ?_
    · rw [List.length_append, List.length_replicate, hlen]
      omega
    · exact List.ne_nil_of_length_pos (by rw [List.length_replicate]; omega)
    · rw [preCountBytes_plain fuel hb, if_pos (by omega)]
  · refine .whole (b :: rest.take len) (rest.drop len) (by simp) (.plain hb ?_) (skipsBlock_of_plain hb _)
      fun fuel => ?_
    · rw [List.length_take_of_le (by omega), hlen]
    · rw [preCountBytes_plain fuel hb, if_neg (by omega), hlen, List.drop_succ_cons, codeUnits, if_neg hb,
        plainUnits_eq_emitsUnit hk]

theorem blockHead_extended (e : Byte) (rest : List Byte) : BlockHead p (0x10 :: e :: rest) := by
  by_cases he : 0x90 ≤ e.toNat ∧ e.toNat ≤ 0x9F
  · exact .skips e rest rfl he fun fuel => by rw [preCountBytes_extended, if_pos he]
  obtain ⟨len, hlen⟩ := Nat.exists_eq_add_of_le' (two_le_totalLenExtended e)
  by_cases hcut : rest.length < len
  · refine .cut (0x10 :: e :: (rest ++ List.replicate (len - rest.length) 0)) _ (.extended ?_) rfl ?_ fun fuel => ?_
    · rw [List.length_append, List.length_replicate, hlen]
      omega
    · exact List.ne_nil_of_length_pos (by rw [List.length_replicate]; omega)
    · rw [preCountBytes_extended, if_neg he, if_pos (by omega)]
  · refine .whole (0x10 :: e :: rest.take len) (rest.drop len) (by simp) (.extended ?_) ?_ fun fuel => ?_
    · rw [List.length_take_of_le (by omega), hlen]
    · simpa [skipsBlock] using he
    · rw [preCountBytes_extended, if_neg he, if_neg (by omega), hlen, List.drop_succ_cons, List.drop_succ_cons,
        codeUnits, if_pos rfl]

/-- Every block that is not at its end has a head. -/
theorem blockHead_of_ne_nil (hc : p.c1.admissible = true) (hk : ∀ b ∈ p.c0Known, b.toNat < 0x10)
    (hne : bytes ≠ []) : BlockHead p bytes := by
  match bytes, hne with
  | b :: rest, _ =>
    by_cases hb : b = 0x10
    · subst hb
      cases rest with
      | nil => exact .cut [0x10, 0x20] [0x20] (.extended (by decide)) rfl (by simp) fun _ => rfl
      | cons e rest => exact blockHead_extended e rest
    · exact blockHead_plain hc (hk b) hb rest

end Sys2Proof.Machine
end

section
/-! The units of a block: the decoder puts exactly as many into the output buffer as the pre-scan counts
(42_service_block_parser.md R197, R199, R201). -/

namespace Sys2Proof.Machine

-- One proof at a time: in parallel they need more threads than the memory limit allows.
set_option Elab.async false

variable {s t u : State} {b e : Byte} {i m n k : Nat} {bytes code rest : List Byte} {p : Slot}

/-! ### Room for units -/

/-- There is room for `n` units in the output buffer (10_state.md R36, R37). -/
def State.Room (n : Nat) (s : State) : Prop :=
  n = 0 ∨ ∃ i p, s.out = some i ∧ s.pool[i]? = some p ∧ p.inUse = true ∧ p.numElements + n ≤ p.maxNumElements

theorem State.Room.mono (h : s.Room n) (hm : m ≤ n) : s.Room m := by
  obtain rfl | ⟨i, p, hout, hp, huse, hroom⟩ := h
  · exact .inl (Nat.le_zero.1 hm)
  · exact .inr ⟨i, p, hout, hp, huse, by omega⟩

/-- The unit with this body, as the decoder tags it (43_decoder_c0.md R220). -/
def State.unitOf (s : State) (body : Body) : Element := .unit { svc := s.sbSvc, seq := s.curSeq, body := body }

theorem units_of_out (hout : s.out = some i) (hp : s.pool[i]? = some p) : s.units = p.data := by
  simp [State.units, hout, hp]

theorem emit_of_room_outcome (body : Body) (hr : s.Room 1) :
    (emit body s).outcome = (s.fatal, s.units ++ [s.unitOf body], s.cursors) := by
  obtain h | ⟨i, p, hout, hp, huse, hroom⟩ := hr
  · cases h
  · rw [emit_of_room hout hp huse (by omega), State.outcome, units_of_out hout hp,
      units_of_out (i := i) (by exact hout) (setSlot_getElem? hp)]
    rfl

/-- A code that has room for its units ends with them in the output buffer, and nowhere a fatal condition. -/
theorem CodeEnd.outcome (h : CodeEnd u k t) (hf : u.fatal = false) (hr : u.Room k) :
    ∃ bodies : List Body, bodies.length = k ∧ t.outcome = (false, u.units ++ bodies.map u.unitOf, u.cursors) := by
  cases h with
  | unit h =>
    obtain ⟨body, f, rfl, hkeep⟩ := h
    have hemit := emit_of_room_outcome body hr
    rw [hf] at hemit
    have hlive : (emit body u).fatal = false := congrArg Prod.fst hemit
    exact ⟨[body], rfl, by rw [andThen_of_live hlive, hkeep, hemit]; rfl⟩
  | noUnit h => exact ⟨[], rfl, by rw [h, State.outcome, hf, List.map_nil, List.append_nil]⟩

/-! ### What the decoder yields -/

/-- From `s` to `t` the decoder has put `n` units more into the output buffer, tagged with the service of the block and
the sequence number of the packet; no fatal condition, and nothing else but what the decoder owns. -/
structure Yields (n : Nat) (s t : State) : Prop where
  live : t.fatal = false
  frame : t.frame = s.frame
  account : t.account = s.account
  units : ∃ bodies : List Body, bodies.length = n ∧ t.units = s.units ++ bodies.map s.unitOf

theorem unitOf_of_frame (h : t.frame = s.frame) : t.unitOf = s.unitOf := (congrArg State.unitOf h :)

theorem Yields.trans (h : Yields m s t) (g : Yields n t u) : Yields (m + n) s u where
  live := g.live
  frame := g.frame.trans h.frame
  account := g.account.trans h.account
  units := by
    obtain ⟨bodies, hlen, hunits⟩ := h.units
    obtain ⟨bodies', hlen', hunits'⟩ := g.units
    refine ⟨bodies ++ bodies', by rw [List.length_append, hlen, hlen'], ?_⟩
    rw [hunits', hunits, unitOf_of_frame h.frame, List.map_append, List.append_assoc]

theorem Yields.length_units (h : Yields n s t) : t.units.length = s.units.length + n := by
  obtain ⟨bodies, hlen, hunits⟩ := h.units
  rw [hunits, List.length_append, List.length_map, hlen]

/-- What room was left is left but for the units. -/
theorem Yields.room (h : Yields n s t) (hr : s.Room (n + m)) : t.Room m := by
  obtain h0 | ⟨i, p, hout, hp, huse, hroom⟩ := hr
  · exact .inl (by omega)
  · obtain ⟨q, hq, hempty⟩ := account_getElem?_out h.account hout hp
    have htout : t.out = some i := (account_out h.account).trans hout
    have hmax : q.maxNumElements = p.maxNumElements := (congrArg Slot.maxNumElements hempty :)
    have hinUse : q.inUse = p.inUse := (congrArg Slot.inUse hempty :)
    have hlen := h.length_units
    rw [units_of_out htout hq, units_of_out hout hp] at hlen
    refine .inr ⟨i, q, htout, hq, hinUse.trans huse, ?_⟩
    rw [hmax, Slot.numElements, hlen]
    rw [Slot.numElements] at hroom
    omega

theorem feed_account (bytes : List Byte) (s : State) : (feed bytes s).account = s.account := by
  induction bytes generalizing s with
  | nil => rfl
  | cons b rest ih =>
    unfold feed
    split
    · rfl
    · exact (ih _).trans (decodeByte_account b (s.consumed 1))

theorem State.Collects.room (h : s.Collects n t) (hr : s.Room m) : t.Room m := by
  have hout : t.out = s.out := (congrArg State.out h :)
  have hpool : t.pool = s.pool := (congrArg State.pool h :)
  unfold State.Room
  rwa [hout, hpool]

/-- A whole code that does not skip its block yields its units, and `rd` is behind it. -/
theorem feed_codeBytes_yields (hc : s.cfg.c1.admissible = true) (hf : s.fatal = false) (hm : s.mode = .dataWait)
    (hcode : CodeBytes s.cfg.c1 code) (hskip : skipsBlock code = false) (hr : s.Room (codeUnits s.cfg code)) :
    Yields (codeUnits s.cfg code) s (feed code s) ∧ (feed code s).rd = cursor (s.rd.val + code.length) := by
  obtain ⟨v, hv, hend⟩ := feed_codeBytes hc hf hm hcode hskip
  obtain ⟨bodies, hlen, hout⟩ := hend.outcome (hv.fatal.trans hf) (hv.room hr)
  have hunitOf : v.unitOf = s.unitOf := (congrArg State.unitOf hv :)
  obtain ⟨hlive, hunits, hcursors⟩ : (feed code s).fatal = false ∧
      (feed code s).units = v.units ++ bodies.map v.unitOf ∧ (feed code s).cursors = v.cursors := by
    simpa [State.outcome] using hout
  refine ⟨⟨hlive, (feed_steps code s).frame, feed_account code s, bodies, hlen, ?_⟩, ?_⟩
  · rw [hunits, hv.units, hunitOf]
  · exact (congrArg Cursors.rd hcursors :).trans hv.rd

/-! ### The block -/

/-- The decoder stands at a code boundary of a block, under admissible parameters (43_decoder_c0.md R221). -/
structure State.AtBoundary (s : State) : Prop where
  live : s.fatal = false
  idle : s.decoderIdle
  admissible : s.codesAdmissible
  inside : s.rd.val ≤ s.sbEnd.val

theorem State.AtBoundary.dataWait (h : s.AtBoundary) : s.mode = .dataWait := h.idle.1
theorem State.AtBoundary.c0Known (h : s.AtBoundary) : ∀ b ∈ s.cfg.c0Known, b.toNat < 0x10 := h.admissible.1
theorem State.AtBoundary.c1 (h : s.AtBoundary) : s.cfg.c1.admissible = true := h.admissible.2

theorem decodeBlock_of_end (hf : s.fatal = false) (hm : s.mode = .dataWait) (h : s.sbEnd.val ≤ s.rd.val) :
    decodeBlock s = s := by
  rw [decodeBlock, decodeLoop_of_end _ h, andThen_of_live hf, endOfBytes, if_pos hm]

/-- What `DecodeBlock` is to do where the pre-scan counts `n` (R201). -/
structure DecodesAll (n : Nat) (s : State) : Prop where
  yields : Yields n s (decodeBlock s)
  rd : (decodeBlock s).rd.val = s.sbEnd.val
  le : n ≤ s.ahead

theorem decodesAll_of_end (hs : s.AtBoundary) (h : s.ahead = 0) : DecodesAll 0 s := by
  have hend : s.sbEnd.val ≤ s.rd.val := Nat.le_of_sub_eq_zero h
  have hself := decodeBlock_of_end hs.live hs.dataWait hend
  refine ⟨hself.symm ▸ ⟨hs.live, rfl, rfl, [], rfl, (List.append_nil _).symm⟩, ?_, Nat.zero_le _⟩
  rw [hself]
  exact le_antisymm hs.inside hend

/-- No unit comes of a block of which the decoder keeps the output buffer as it is, and `DecodeBlock` ends where the
block does. -/
theorem decodesAll_of_no_unit (hlive : (decodeBlock s).fatal = false) (hunits : (decodeBlock s).units = s.units)
    (hrd : (decodeBlock s).rd = s.sbEnd) : DecodesAll 0 s where
  yields := ⟨hlive, (decodeBlock_steps s).frame, decodeBlock_account s, [], rfl, by simp [hunits]⟩
  rd := by rw [hrd]
  le := Nat.zero_le _

/-- Every part of a code is only collected. -/
theorem collects_take (hs : s.AtBoundary) (hcode : CodeBytes s.cfg.c1 code) {j : Nat} (hj : j < code.length) :
    s.Collects j (feed (code.take j) s) := by
  cases j with
  | zero => exact .of_registers rfl
  | succ j => exact (feed_codeBytes_cut hs.c1 hs.live hs.dataWait hcode hj).1

/-- A code that skips the rest of its block (R320). -/
theorem feed_skip (e : Byte) (hf : s.fatal = false) (hm : s.mode = .dataWait) (he : 0x90 ≤ e.toNat ∧ e.toNat ≤ 0x9F) :
    ∃ v, s.Collects 2 v ∧ feed [0x10, e] s = c3Abandon e v := by
  obtain ⟨hext, hmode, hphase⟩ := consume_ext1 hm
  refine ⟨(consume 0x10 s).consumed 1, hext.trans (consumed_collects 1 _), ?_⟩
  rw [feed_cons_of_live hf, feed_cons_of_live (hext.fatal.trans hf), feed_nil, consume_extCode e hmode hphase]
  exact extCodeByte_c3Abandon _ he

theorem decodesAll_of_skip (hs : s.AtBoundary) (hb : s.bytesAhead = [0x10, e] ++ rest)
    (he : 0x90 ≤ e.toNat ∧ e.toNat ≤ 0x9F) : DecodesAll 0 s := by
  have hcode : CodeBytes s.cfg.c1 [0x10, e] := .extended (totalLenExtended_char (.inr he.1)).symm
  obtain ⟨v, hv, hfeed⟩ := feed_skip e hs.live hs.dataWait he
  have hlive : (c3Abandon e v).fatal = false := hv.fatal.trans hs.live
  have hmode : (c3Abandon e v).mode = .dataWait := rfl
  have hblock : decodeBlock s = c3Abandon e v := by
    rw [decodeBlock_eq_feed hs.live hb fun j hj => collects_take hs hcode hj, hfeed, decodeLoop_of_end _ le_rfl,
      andThen_of_live hlive, endOfBytes, if_pos hmode]
  exact decodesAll_of_no_unit (hblock ▸ hlive) (hblock ▸ hv.units) (hblock ▸ hv.sbEnd)

/-- A code that the block cuts off is truncated (43_decoder_c0.md R224). -/
theorem decodesAll_of_cut (hs : s.AtBoundary) (hne : s.bytesAhead ≠ [])
    (hcode : CodeBytes s.cfg.c1 (s.bytesAhead ++ rest)) (hrest : rest ≠ []) : DecodesAll 0 s := by
  have hpos : 0 < rest.length := List.length_pos_iff.2 hrest
  obtain ⟨j, hj⟩ := Nat.exists_eq_add_one_of_ne_zero (List.length_pos_iff.2 hne).ne'
  obtain ⟨hcollect, hmode⟩ := feed_codeBytes_cut hs.c1 hs.live hs.dataWait hcode
    (j := j) (by rw [List.length_append]; omega)
  rw [← hj, List.take_left] at hcollect hmode
  have hcut : ∀ j, j < s.bytesAhead.length → s.Collects j (feed (s.bytesAhead.take j) s) := fun j hj => by
    have h := collects_take hs hcode (j := j) (by rw [List.length_append]; omega)
    rwa [List.take_append_of_le_length hj.le] at h
  have hlive : (feed s.bytesAhead s).fatal = false := hcollect.fatal.trans hs.live
  have hblock : decodeBlock s = truncated (feed s.bytesAhead s) := by
    rw [decodeBlock_eq_feed hs.live (List.append_nil _).symm hcut, List.length_nil, decodeLoop, andThen_of_live hlive,
      endOfBytes, if_neg hmode]
  refine decodesAll_of_no_unit (hblock ▸ hlive) (hblock ▸ hcollect.units) (hblock ▸ hcollect.rd.trans ?_)
  have hin := hs.inside
  refine Fin.ext ?_
  rw [length_bytesAhead, State.ahead, cursor_val]
  omega

theorem CodeBytes.length_pos {c : C1Table} (h : CodeBytes c code) : 1 ≤ code.length := by
  cases h <;> simp

theorem codeUnits_le_one (p : Params) (code : List Byte) : codeUnits p code ≤ 1 := by
  unfold codeUnits plainUnits
  split
  · exact Nat.zero_le _
  · split_ifs <;> decide

/-- Behind a whole code the decoder stands at a code boundary again, and the rest of the block is still to do. -/
theorem atBoundary_behind (hs : s.AtBoundary) (hb : s.bytesAhead = code ++ rest) (hcode : CodeBytes s.cfg.c1 code)
    (hyields : Yields k s (feed code s)) (hrd : (feed code s).rd = cursor (s.rd.val + code.length)) :
    (feed code s).AtBoundary ∧ (feed code s).bytesAhead = rest ∧ decodeBlock s = decodeBlock (feed code s) := by
  have hcfg : (feed code s).cfg = s.cfg := (congrArg State.cfg hyields.frame :)
  have hend : (feed code s).sbEnd = s.sbEnd := (congrArg State.sbEnd hyields.frame :)
  have hbuf : (feed code s).pktBuf = s.pktBuf := (congrArg State.pktBuf hyields.frame :)
  have hrest : (feed code s).bytesAhead = rest := bytesAhead_behind hrd hend hbuf hb
  have hlen := congrArg List.length hb
  rw [length_bytesAhead, List.length_append, State.ahead] at hlen
  refine ⟨⟨hyields.live, feed_codeBytes_idles hs.c1 hs.idle hs.live hcode hyields.live, ?_, ?_⟩, hrest, ?_⟩
  · unfold State.codesAdmissible
    rw [hcfg]
    exact hs.admissible
  · have hin := hs.inside
    have hpos := hcode.length_pos
    rw [hrd, hend, cursor_val]
    omega
  · rw [decodeBlock_eq_feed hs.live hb fun j hj => collects_take hs hcode hj, ← hrest, length_bytesAhead]
    rfl

/-- A whole code yields its units, and the rest of the block the others. -/
theorem DecodesAll.behind (h : DecodesAll m t) (hyields : Yields k s t) (heq : decodeBlock s = decodeBlock t)
    (hle : k + t.ahead ≤ s.ahead) : DecodesAll (k + m) s where
  yields := heq ▸ hyields.trans h.yields
  rd := by
    have hend : t.sbEnd = s.sbEnd := (congrArg State.sbEnd hyields.frame :)
    rw [heq, h.rd, hend]
  le := by
    have := h.le
    omega

/-- The pre-scan is exact, by induction on the codes: each is one that the pre-scan counts and the decoder carries
out, and the block may end with one that neither completes (R197, R201). -/
theorem decodesAll_of_preCountBytes (fuel : Nat) (hs : s.AtBoundary) (hfuel : s.ahead ≤ fuel)
    (hn : preCountBytes s.cfg fuel s.bytesAhead = n) (hr : s.Room n) : DecodesAll n s := by
  induction fuel generalizing s n with
  | zero =>
    subst hn
    exact decodesAll_of_end hs (Nat.le_zero.1 hfuel)
  | succ fuel ih =>
    by_cases hnil : s.bytesAhead = []
    · rw [hnil] at hn
      subst hn
      exact decodesAll_of_end hs (by rw [← length_bytesAhead, hnil]; rfl)
    cases blockHead_of_ne_nil (p := s.cfg) hs.c1 hs.c0Known hnil with
    | whole code rest hb hcode hskip hcount =>
      obtain rfl := (hcount fuel).symm.trans hn
      obtain ⟨hyields, hrd⟩ := feed_codeBytes_yields hs.c1 hs.live hs.dataWait hcode hskip
        (hr.mono (Nat.le_add_right ..))
      obtain ⟨hbound, hrest, heq⟩ := atBoundary_behind hs hb hcode hyields hrd
      have hcfg : (feed code s).cfg = s.cfg := (congrArg State.cfg hyields.frame :)
      have hle : codeUnits s.cfg code + (feed code s).ahead ≤ s.ahead := by
        rw [← length_bytesAhead, ← length_bytesAhead, hrest, hb, List.length_append]
        exact Nat.add_le_add_right ((codeUnits_le_one ..).trans hcode.length_pos) _
      have hless : (feed code s).ahead < s.ahead := by
        rw [← length_bytesAhead, ← length_bytesAhead, hrest, hb, List.length_append]
        have := hcode.length_pos
        omega
      exact (ih hbound (by omega) (by rw [hcfg, hrest]) (hyields.room hr)).behind hyields heq hle
    | skips e rest hb he hcount =>
      obtain rfl := (hcount fuel).symm.trans hn
      exact decodesAll_of_skip hs hb he
    | cut code rest hcode hb hrest hcount =>
      obtain rfl := (hcount fuel).symm.trans hn
      exact decodesAll_of_cut hs hnil (hb ▸ hcode) hrest

/-- So `ProcessBlock` finds what it has counted (R199). -/
theorem decodesAll_of_preCount (hs : s.AtBoundary) (hr : s.Room (preCount s s.rd.val s.sbEnd.val)) :
    DecodesAll (preCount s s.rd.val s.sbEnd.val) s :=
  decodesAll_of_preCountBytes s.ahead hs le_rfl rfl hr

/-- Settles O26 by `decodesAll_of_preCount`. -/
theorem preCountIsExact : Obligations.PreCountIsExact := by
  intro s hf hidle hadm hrd n hroom
  have hall : DecodesAll n s := decodesAll_of_preCount ⟨hf, hidle, hadm, hrd⟩ hroom
  refine ⟨hall.le, hall.yields.live, decodeBlock_idles hidle hall.yields.live, hall.rd,
    account_out hall.yields.account, ?_⟩
  rw [unitsEmitted_eq_length, unitsEmitted_eq_length, hall.yields.length_units]

end Sys2Proof.Machine
end

section
/-! The whole of `ProcessBlock`: its buffer, the count check and the delivery (42_service_block_parser.md R198 to
R200). -/

namespace Sys2Proof.Machine

-- One proof at a time: in parallel they need more threads than the memory limit allows.
set_option Elab.async false

variable {s t u d : State} {i n : Nat} {p : Slot} {units : List Element}

/-! ### What a block leaves to the deliveries -/

/-- The packet, and what a delivery reads besides its buffer: the registry, the answers, the calls so far, `ok`. -/
def State.downstream (s : State) :
    List SinkEntry × Bool × List SinkCall × List Reply × Nat × Memory × Cursor :=
  (s.sinks, s.ok, s.sinkCalls, s.replies, s.sinkTick, s.pktBuf, s.pktLen)

theorem downstream_iff : t.downstream = s.downstream ↔
    t.sinks = s.sinks ∧ t.ok = s.ok ∧ t.sinkCalls = s.sinkCalls ∧ t.replies = s.replies ∧ t.sinkTick = s.sinkTick ∧
      t.pktBuf = s.pktBuf ∧ t.pktLen = s.pktLen := by
  simp only [State.downstream, Prod.mk.injEq]

theorem downstream_of_decoder (hframe : t.frame = s.frame) (haccount : t.account = s.account) :
    t.downstream = s.downstream := by
  have hsinks : t.sinks = s.sinks := (congrArg State.sinks hframe :)
  have hbuf : t.pktBuf = s.pktBuf := (congrArg State.pktBuf hframe :)
  have hlen : t.pktLen = s.pktLen := (congrArg State.pktLen hframe :)
  have hledger := congrArg Prod.snd haccount
  have hok : t.ok = s.ok := (congrArg Ledger.ok hledger :)
  have hcalls : t.sinkCalls = s.sinkCalls := (congrArg Ledger.sinkCalls hledger :)
  have hreplies : t.replies = s.replies := (congrArg Ledger.replies hledger :)
  have htick : t.sinkTick = s.sinkTick := (congrArg Ledger.sinkTick hledger :)
  simp only [State.downstream, hsinks, hbuf, hlen, hok, hcalls, hreplies, htick]

theorem account_pool_of_no_out (h : t.account = s.account) (hout : s.out = none) : t.pool = s.pool :=
  List.ext_getElem? fun _ => account_getElem?_of_ne h (by simp [hout])

/-- Only the elements of the output buffer may differ, so that setting its slot makes the pools the same. -/
theorem account_pool_set (h : t.account = s.account) (hout : s.out = some i) (p : Slot) :
    t.pool.set i p = s.pool.set i p := by
  have hpool := account_poolWithoutUnits h
  have hlen := congrArg List.length hpool
  simp only [State.poolWithoutUnits, account_out h, hout, List.length_modify] at hlen
  refine List.ext_getElem? fun k => ?_
  by_cases hk : i = k
  · subst hk
    simp [List.getElem?_set, hlen]
  · rw [List.getElem?_set_ne hk, List.getElem?_set_ne hk,
      account_getElem?_of_ne h (by rw [hout]; exact fun h => hk (Option.some.inj h))]

/-! ### The steps of `ProcessBlock` -/

theorem processBlock_of_live (ho : (openBlock s).fatal = false) (hd : (decodeBlock (openBlock s)).fatal = false) :
    processBlock s = closeBlock (decodeBlock (openBlock s)) := by
  rw [processBlock, andThen_of_live ho, andThen_of_live hd]

/-- Without a unit there is no output buffer (R198 (a)). -/
theorem openBlock_of_no_unit (h : preCount s s.rd.val s.sbEnd.val = 0) :
    openBlock s = { s with expectN := 0, phase := .block, out := none } := by
  unfold openBlock
  dsimp only
  rw [if_pos h, h]

/-- The output buffer of a block, holding these units (R131, R198). -/
def State.blockBuffer (s : State) (n : Nat) (units : List Element) : Slot :=
  { freshSlot .dtvccUnits n with ts := s.curTs, data := units }

/-- With units to come and a free slot there is a buffer of exactly their number (R131, R198). -/
theorem openBlock_of_free_slot (hf : s.fatal = false) (hn : preCount s s.rd.val s.sbEnd.val = n) (hpos : 0 < n)
    (hfree : ∃ p ∈ s.pool, p.inUse = false) :
    ∃ i q, s.pool[i]? = some q ∧ q.inUse = false ∧
      openBlock s =
        setSlot i (s.blockBuffer n []) { s with expectN := n, phase := .block, out := some i } := by
  obtain ⟨hfull, -⟩ | ⟨i, q, hq, hqfree, heq⟩ := allocate_cases .dtvccUnits n { s with expectN := n, phase := .block }
  · obtain ⟨p, hp, hpfree⟩ := hfree
    simp [hfull p hp] at hpfree
  · refine ⟨i, q, hq, hqfree, ?_⟩
    have hlive : (setSlot i (freshSlot .dtvccUnits n)
        { s with expectN := n, phase := .block, out := some i }).LiveSlot i (freshSlot .dtvccUnits n) :=
      ⟨hf, setSlot_getElem? hq, rfl⟩
    unfold openBlock
    simp only [hn, if_neg hpos.ne', heq]
    rw [andThen_of_live (by exact hf)]
    exact (setTimestamp_of_liveSlot hlive s.curTs).trans (setSlot_setSlot ..)

/-- Opening a block leaves the decoder where it is, before the bytes that were counted (R198). -/
theorem openBlock_atBoundary (hs : s.AtBoundary) (ho : (openBlock s).fatal = false) :
    (openBlock s).AtBoundary ∧ (openBlock s).sbEnd = s.sbEnd ∧
      preCount (openBlock s) (openBlock s).rd.val (openBlock s).sbEnd.val = preCount s s.rd.val s.sbEnd.val := by
  obtain ⟨n, heq | heq | ⟨i, q, -, -, heq⟩⟩ := openBlock_cases hs.live <;> rw [heq] at ho ⊢
  · exact ⟨⟨hs.live, hs.idle, hs.admissible, hs.inside⟩, rfl, rfl⟩
  · cases ho
  · exact ⟨⟨hs.live, hs.idle, hs.admissible, hs.inside⟩, rfl, rfl⟩

/-- With room for what was counted the block that is opened is decoded (R201). -/
theorem decodesAll_openBlock (hs : s.AtBoundary) (ho : (openBlock s).fatal = false)
    (hn : preCount s s.rd.val s.sbEnd.val = n) (hr : (openBlock s).Room n) : DecodesAll n (openBlock s) := by
  obtain ⟨hbound, -, hcount⟩ := openBlock_atBoundary hs ho
  have h := decodesAll_of_preCount hbound
  rw [hcount, hn] at h
  exact h hr

/-- The last lines of `ProcessBlock` where the count is right (R198, R199). -/
theorem closeBlock_of_counted (hf : s.fatal = false) (hcount : unitsEmitted s = s.expectN) :
    closeBlock s = (if s.out = none then s else deliver s).andThen fun t => { t with phase := .parse } := by
  rw [closeBlock, countCheck, if_pos hcount, andThen_of_live hf]

/-! ### The delivery -/

/-- Dispatch of a buffer to sinks that keep their duty, however many they are (R136). -/
theorem dispatch_of_dutiful (h : s.LiveSlot i p) (hr : 1 ≤ p.readers) (hd : s.dutifulSinks) :
    ∃ r cnt occurred diag,
      dispatch (some i) s =
        (r, setSlot i
          { p with readers := p.readers + s.sinks.length - releasesIn (s.answers s.sinks.length) }
          { s.afterCalls s.sinks.length (acceptCalls s.sinks i p.ts p.data) with
            cnt := cnt, occurred := occurred, diag := diag }) ∧
      (s.sinks ≠ [] → r = allSucceed (s.answers s.sinks.length) ∧ diag = s.diag ∧ cnt = s.cnt) ∧
      (s.sinks = [] → r = false ∧ diag = (raise .noSinks s).diag ∧ cnt = (raise .noSinks s).cnt) := by
  by_cases hsinks : s.sinks = []
  · refine ⟨false, _, (raise .noSinks s).occurred, _, ?_, fun hne => absurd hsinks hne, fun _ => ⟨rfl, rfl, rfl⟩⟩
    have hslot : setSlot i p (raise .noSinks s) = raise .noSinks s := setSlot_of_getElem? h.getSlot
    have hcalls : acceptCalls [] i p.ts p.data = [] := rfl
    rw [dispatch_of_no_sinks h hsinks, hsinks, List.length_nil, hcalls, afterCalls_zero, answers_zero]
    exact Prod.ext rfl hslot.symm
  · exact ⟨_, s.cnt, s.occurred, s.diag, dispatch_of_liveSlot h hr hsinks hd, fun _ => ⟨rfl, rfl, rfl⟩,
      fun hnil => absurd hnil hsinks⟩

/-- `Deliver()` after its Dispatch: `ok` takes the result, and one reference is released (R200). -/
theorem deliver_of_dispatch {r : Bool} (hout : s.out = some i) (hx : dispatch (some i) s = (r, t))
    (htout : t.out = some i) (hlive : t.LiveSlot i p) (hr : 1 ≤ p.readers) :
    deliver s =
      { setSlot i { p with readers := p.readers - 1, inUse := decide (p.readers - 1 ≠ 0) } t with
        ok := t.ok && r, out := none } := by
  have hrelease := (congrArg (release · { t with ok := t.ok && r }) htout).trans
    (release_of_reader (s := { t with ok := t.ok && r }) hlive hr)
  rw [deliver_eq, hout, hx, andThen_of_live hlive.notHalted, hrelease, andThen_of_live (by exact hlive.notHalted)]
  rfl

/-- `Deliver()` of a buffer with the producer's reference alone: what is left of its readers are the sinks that have
not released it (R136, R200). -/
theorem deliver_of_dutiful (hout : s.out = some i) (h : s.LiveSlot i p) (hr : p.readers = 1) (hd : s.dutifulSinks) :
    ∃ r cnt occurred diag,
      deliver s =
        { s.afterCalls s.sinks.length (acceptCalls s.sinks i p.ts p.data) with
          pool := s.pool.set i
            { p with
              readers := s.sinks.length - releasesIn (s.answers s.sinks.length)
              inUse := decide (s.sinks.length - releasesIn (s.answers s.sinks.length) ≠ 0) }
          cnt := cnt, occurred := occurred, diag := diag, ok := s.ok && r, out := none } ∧
      (s.sinks ≠ [] → r = allSucceed (s.answers s.sinks.length) ∧ diag = s.diag ∧ cnt = s.cnt) ∧
      (s.sinks = [] → r = false ∧ diag = (raise .noSinks s).diag ∧ cnt = (raise .noSinks s).cnt) := by
  obtain ⟨r, cnt, occurred, diag, hdispatch, hsome, hnone⟩ := dispatch_of_dutiful h hr.ge hd
  have hle : releasesIn (s.answers s.sinks.length) ≤ s.sinks.length :=
    List.countP_le_length.trans_eq (length_answers _ s)
  have hleft : p.readers + s.sinks.length - releasesIn (s.answers s.sinks.length) - 1 =
      s.sinks.length - releasesIn (s.answers s.sinks.length) := by omega
  have hdeliver := deliver_of_dispatch hout hdispatch hout
    (setSlot_liveSlot (s := { s.afterCalls s.sinks.length (acceptCalls s.sinks i p.ts p.data) with
      cnt := cnt, occurred := occurred, diag := diag }) h h.inUse) (by simp only; omega)
  refine ⟨r, cnt, occurred, diag, hdeliver.trans ?_, hsome, hnone⟩
  simp only [hleft, setSlot, List.set_set]
  rfl

/-! ### A block that yields units -/

/-- `d` is the block of `s` when its `n` units are decoded into slot `i`, which was free before. -/
structure DecodedInto (i n : Nat) (units : List Element) (s d : State) : Prop where
  free : ∃ q, s.pool[i]? = some q ∧ q.inUse = false
  slot : d.LiveSlot i (s.blockBuffer n units)
  out : d.out = some i
  length : units.length = n
  tagged : ∀ u ∈ units, ∃ body, u = s.unitOf body
  others : ∀ p, d.pool.set i p = s.pool.set i p
  expected : d.expectN = n
  downstream : d.downstream = s.downstream
  idle : d.decoderIdle
  rd : d.rd.val = s.sbEnd.val

theorem decodedInto_of_openBlock (hs : s.AtBoundary) (hn : preCount s s.rd.val s.sbEnd.val = n) (hpos : 0 < n)
    (hfree : ∃ p ∈ s.pool, p.inUse = false) :
    ∃ i units, (openBlock s).fatal = false ∧ DecodedInto i n units s (decodeBlock (openBlock s)) := by
  obtain ⟨i, q, hq, hqfree, hopen⟩ := openBlock_of_free_slot hs.live hn hpos hfree
  have hlive : (openBlock s).fatal = false := by rw [hopen]; exact hs.live
  have hslot : (openBlock s).pool[i]? = some (s.blockBuffer n []) := by rw [hopen]; exact setSlot_getElem? hq
  have hout : (openBlock s).out = some i := by rw [hopen]; rfl
  obtain ⟨hbound, hend, -⟩ := openBlock_atBoundary hs hlive
  have hall := decodesAll_openBlock hs hlive hn (.inr ⟨i, _, hout, hslot, rfl, (Nat.zero_add n).le⟩)
  have hyields := hall.yields
  generalize openBlock s = o at *
  obtain ⟨bodies, hlen, hunits⟩ := hyields.units
  obtain ⟨p, hp, hempty⟩ := account_getElem?_out hyields.account hout hslot
  have hdout : (decodeBlock o).out = some i := (account_out hyields.account).trans hout
  have hdata : p.data = bodies.map o.unitOf := by
    rw [← units_of_out hdout hp, hunits, units_of_out hout hslot]
    rfl
  have hbuffer : p = s.blockBuffer n (bodies.map o.unitOf) :=
    hdata ▸ (congrArg (fun q : Slot => { q with data := p.data }) hempty :)
  have hunitOf : o.unitOf = s.unitOf := by rw [hopen]; rfl
  have hsame : o.downstream = s.downstream := by rw [hopen]; rfl
  have hexpect : o.expectN = n := by rw [hopen]; rfl
  refine ⟨i, bodies.map o.unitOf, hlive, ⟨q, hq, hqfree⟩, ⟨hyields.live, hbuffer ▸ hp, rfl⟩,
    hdout, by rw [List.length_map, hlen], fun u hu => ?_, fun p => ?_, ?_, ?_, ?_, by rw [hall.rd, hend]⟩
  · obtain ⟨body, -, rfl⟩ := List.mem_map.1 hu
    exact ⟨body, by rw [hunitOf]⟩
  · rw [account_pool_set hyields.account hout, hopen]
    exact List.set_set ..
  · exact (congrArg State.expectN hyields.frame :).trans hexpect
  · exact (downstream_of_decoder hyields.frame hyields.account).trans hsame
  · exact decodeBlock_idles hbound.idle hyields.live

/-- The last lines of `ProcessBlock` for such a block (R198 to R200), with sinks that keep their duty. -/
theorem DecodedInto.closeBlock (h : DecodedInto i n units s d) (hd : s.dutifulSinks) :
    ∃ r cnt occurred diag,
      closeBlock d =
        { d.afterCalls s.sinks.length (acceptCalls s.sinks i s.curTs units) with
          pool := s.pool.set i
            { s.blockBuffer n units with
              readers := s.sinks.length - releasesIn (s.answers s.sinks.length)
              inUse := decide (s.sinks.length - releasesIn (s.answers s.sinks.length) ≠ 0) }
          cnt := cnt, occurred := occurred, diag := diag, ok := s.ok && r, out := none, phase := .parse } ∧
      (s.sinks ≠ [] → r = allSucceed (s.answers s.sinks.length) ∧ diag = d.diag ∧ cnt = d.cnt) ∧
      (s.sinks = [] → r = false ∧ diag = (raise .noSinks d).diag ∧ cnt = (raise .noSinks d).cnt) := by
  obtain ⟨hsinks, hok, -, hreplies, htick, -, -⟩ := downstream_iff.1 h.downstream
  have hlive := h.slot.notHalted
  have hcounted : unitsEmitted d = d.expectN := by
    rw [unitsEmitted_eq_length, units_of_out h.out h.slot.getSlot, h.expected, ← h.length]
    rfl
  have hdutiful : d.dutifulSinks := fun r hr => hd r (hreplies ▸ hr)
  have hanswers : d.answers s.sinks.length = s.answers s.sinks.length := (answered_congr hreplies htick).1
  obtain ⟨r, cnt, occurred, diag, hdeliver, hsome, hnone⟩ := deliver_of_dutiful h.out h.slot rfl hdutiful
  rw [hsinks, hanswers, h.others, hok] at hdeliver
  rw [hsinks, hanswers] at hsome
  rw [hsinks] at hnone
  refine ⟨r, cnt, occurred, diag, ?_, hsome, hnone⟩
  rw [closeBlock_of_counted hlive hcounted, if_neg (by simp [h.out]), hdeliver, andThen_of_live (by exact hlive)]
  rfl

end Sys2Proof.Machine
end

section
/-! The statements of 42_service_block_parser.md on `ProcessBlock`. -/

namespace Sys2Proof.Machine

-- One proof at a time: in parallel they need more threads than the memory limit allows.
set_option Elab.async false

/-- Settles O27: without a unit no buffer is opened, and the count check finds none. -/
theorem blockWithoutUnits : Obligations.BlockWithoutUnits := by
  intro s hf hidle hadm hrd hzero
  have hopen := openBlock_of_no_unit hzero
  have hs : s.AtBoundary := ⟨hf, hidle, hadm, hrd⟩
  have hlive : (openBlock s).fatal = false := by rw [hopen]; exact hf
  have hout : (openBlock s).out = none := by rw [hopen]
  obtain ⟨hbound, hend, -⟩ := openBlock_atBoundary hs hlive
  have hall := decodesAll_openBlock hs hlive hzero (.inl rfl)
  have hyields := hall.yields
  have hdout := (account_out hyields.account).trans hout
  have hexpect : (decodeBlock (openBlock s)).expectN = 0 := by
    have h : (decodeBlock (openBlock s)).expectN = (openBlock s).expectN := (congrArg State.expectN hyields.frame :)
    rw [h, hopen]
  have hcounted : unitsEmitted (decodeBlock (openBlock s)) = (decodeBlock (openBlock s)).expectN := by
    rw [hexpect, unitsEmitted, hdout]
  have hsame : (decodeBlock (openBlock s)).downstream = s.downstream :=
    (downstream_of_decoder hyields.frame hyields.account).trans (by rw [hopen]; rfl)
  have hpool : (decodeBlock (openBlock s)).pool = s.pool :=
    (account_pool_of_no_out hyields.account hout).trans (by rw [hopen])
  obtain ⟨-, hok, hcalls, -, -, hbuf, hlen⟩ := downstream_iff.1 hsame
  refine ⟨_, live_of_live hf, ?_⟩
  rw [processBlock_of_live hbound.live hyields.live, closeBlock_of_counted hyields.live hcounted, if_pos hdout,
    andThen_of_live hyields.live]
  exact ⟨hyields.live, decodeBlock_idles hbound.idle hyields.live, rfl, by rw [← hend]; exact hall.rd, hpool, hdout,
    hexpect, hok, hcalls, hbuf, hlen⟩

/-- Settles O28: the block is decoded into a slot that was free (`decodedInto_of_openBlock`), and the count check passes
and the buffer is delivered (`DecodedInto.closeBlock`). -/
theorem blockIsDelivered : Obligations.BlockIsDelivered := by
  intro s hf hidle hadm hrd hpos hfree hd
  obtain ⟨i, units, hlive, hinto⟩ := decodedInto_of_openBlock ⟨hf, hidle, hadm, hrd⟩ rfl hpos hfree
  have hprocess := processBlock_of_live hlive hinto.slot.notHalted
  have hexec : exec .processBlock s = .next (processBlock s) := live_of_live hf
  rw [hprocess] at hexec
  dsimp only
  generalize decodeBlock (openBlock s) = d at hinto hexec ⊢
  generalize preCount s s.rd.val s.sbEnd.val = count at hinto ⊢
  obtain ⟨q, hq, hqfree⟩ := hinto.free
  obtain ⟨-, -, hcalls, hreplies, htick, hbuf, hlen⟩ := downstream_iff.1 hinto.downstream
  obtain ⟨-, hreplies', htick'⟩ := answered_congr (n := s.sinks.length) hreplies htick
  obtain ⟨r, cnt, occurred, diag, hclose, hsome, hnone⟩ := hinto.closeBlock hd
  rw [hclose] at hexec
  refine ⟨_, i, q, units, hexec, hinto.slot.notHalted, hinto.idle, rfl, hq,
    hqfree, ?_, hinto.length, hinto.tagged, rfl, hreplies', htick', ?_, rfl, hinto.rd, hbuf, hlen, fun hne => ?_,
    fun hnil => ?_⟩
  · rw [hinto.slot.getSlot]
    rfl
  · exact congrArg (· ++ acceptCalls s.sinks i s.curTs units) hcalls
  · obtain ⟨rfl, hdiag, hcnt⟩ := hsome hne
    exact ⟨rfl, hdiag, hcnt⟩
  · obtain ⟨rfl, hdiag, hcnt⟩ := hnone hnil
    exact ⟨Bool.and_false _, hdiag, hcnt⟩

end Sys2Proof.Machine
end

section
/-! `ProcessBlock` one code at a time: a step inside a block carries `DecodeBlock` forward by one code, whole or cut off
by the end of the block (43_decoder_c0.md R221, R224, 42_service_block_parser.md R198). Only the decoder's mode is known
where the block is opened, so the facts here ask for DATA_WAIT where those before them ask for an idle decoder. -/

namespace Sys2Proof.Machine

-- One proof at a time: in parallel they need more threads than the memory limit allows.
set_option Elab.async false

variable {s t : State} {b : Byte} {n : Nat} {code : List Byte}

/-! ### The decoder waits for a code after each -/

/-- Unless the machine is halted, the decoder is in DATA_WAIT (R222). -/
abbrev State.InDataWait (s : State) : Prop := s.UnlessHalted fun t => t.mode = .dataWait

theorem State.Idles.inDataWait (h : s.Idles) : s.InDataWait := fun hf => (h hf).1

theorem SubstrateSteps.inDataWait (h : SubstrateSteps s t) (hm : s.mode = .dataWait) : t.InDataWait :=
  fun _ => (congrArg State.mode h.control :).trans hm

theorem endOfBytes_dataWait (s : State) : (endOfBytes s).mode = .dataWait := by
  unfold endOfBytes
  split
  · assumption
  · rfl

/-- A code of one byte leaves the decoder in DATA_WAIT (R230 to R236, R260, R262, R270). -/
theorem dataWaitByte_inDataWait (hm : s.mode = .dataWait) (hlen : totalLen s.cfg.c1 b = 1) :
    (dataWaitByte b s).InDataWait := by
  unfold dataWaitByte
  dsimp only
  split
  · exact (c0Single_steps b s).inDataWait hm
  split
  · rw [totalLen_c0Two (by omega)] at hlen; omega
  split
  · rw [totalLen_c0Two (by omega)] at hlen; omega
  split
  · rw [totalLen_c0Three (by omega)] at hlen; omega
  split
  · exact (emit_steps _ s).inDataWait hm
  split
  · rw [totalLen_c1 (by omega)] at hlen
    exact (State.awaits_zero_iff.1 ((c1Entry_awaits b s).of_eq (by omega))).inDataWait
  · exact (emit_steps _ s).inDataWait hm

/-- A pending code awaits as many bytes as it needs. -/
theorem State.Pending.awaits {k : Nat} (h : s.Pending n k) (hn : n ≠ 0) : s.Awaits n :=
  fun _ => .inr ⟨hn, h.pending, h.skip, h.remaining⟩

/-- The bytes of one code take the decoder from DATA_WAIT to DATA_WAIT (R225). -/
theorem feed_codeBytes_inDataWait (hc : s.cfg.c1.admissible = true) (hf : s.fatal = false) (hm : s.mode = .dataWait)
    (hcode : CodeBytes s.cfg.c1 code) : (feed code s).InDataWait := by
  cases hcode with
  | @plain b rest hb hlen =>
    rw [feed_cons_of_live hf]
    obtain ⟨hn, -⟩ | ⟨hn, -, hp⟩ := consume_begins hc hm hb
    · obtain rfl : rest = [] := List.eq_nil_of_length_eq_zero (by omega)
      rw [feed_nil, consume_dataWait b hm]
      exact dataWaitByte_inDataWait (s := s.consumed 1) hm hlen.symm
    · exact (feed_awaits rest ((hp.awaits hn).of_eq (by omega))).inDataWait
  | @extended e rest hlen =>
    obtain ⟨hext, hmode, hphase⟩ := consume_ext1 hm
    rw [feed_cons_of_live hf, feed_cons_of_live (hext.fatal.trans hf), consume_extCode e hmode hphase]
    exact (feed_awaits rest
      ((extCodeByte_awaits (s := (consume 0x10 s).consumed 1) e hmode).of_eq (by omega))).inDataWait

/-! ### One code of a block -/

/-- The loop of `DecodeBlock` with fuel for the bytes ahead does not depend on how much more there is (R221). -/
theorem decodeLoop_fuel {fuel fuel' : Nat} (h : s.ahead ≤ fuel) (h' : s.ahead ≤ fuel') :
    decodeLoop fuel s = decodeLoop fuel' s := by
  induction fuel generalizing s fuel' with
  | zero =>
    have hend : s.sbEnd.val ≤ s.rd.val := Nat.le_of_sub_eq_zero (Nat.le_zero.1 h)
    rw [decodeLoop_of_end _ hend, decodeLoop_of_end _ hend]
  | succ fuel ih =>
    cases fuel' with
    | zero =>
      have hend : s.sbEnd.val ≤ s.rd.val := Nat.le_of_sub_eq_zero (Nat.le_zero.1 h')
      rw [decodeLoop_of_end _ hend, decodeLoop_of_end _ hend]
    | succ fuel' =>
      have hle := consume_ahead (pktByte s s.rd.val) s
      rw [decodeLoop, decodeLoop, ih (fuel' := fuel') (by omega) (by omega)]

theorem decodeLoop_of_halted (fuel : Nat) (h : s.fatal = true) : decodeLoop fuel s = s := by
  cases fuel with
  | zero => rfl
  | succ fuel => simp [decodeLoop, h]

/-- Every part of a code that the block holds is only collected (R224). -/
theorem feed_take_collects (hc : s.cfg.c1.admissible = true) (hf : s.fatal = false) (hm : s.mode = .dataWait)
    (hcode : CodeBytes s.cfg.c1 code) {j : Nat} (hj : j < (code.take n).length) :
    s.Collects j (feed ((code.take n).take j) s) := by
  rw [List.length_take] at hj
  rw [List.take_take, Nat.min_eq_left (by omega)]
  cases j with
  | zero => exact .of_registers rfl
  | succ j => exact (feed_codeBytes_cut hc hf hm hcode (by omega)).1

/-- A code, whole or cut off, leaves the decoder in DATA_WAIT (R224, R225). -/
theorem runCode_inDataWait (hc : s.cfg.c1.admissible = true) (hf : s.fatal = false) (hm : s.mode = .dataWait)
    (hcode : CodeBytes s.cfg.c1 code) : (runCode code s).InDataWait := by
  change ((feed (code.take s.ahead) s).andThen _).InDataWait
  refine unlessHalted_andThen fun hlive => ?_
  split
  · next hrd =>
    have hahead := feed_ahead _ s hlive
    have hless : (code.take s.ahead).length < s.ahead := by
      have hpos : 0 < (feed (code.take s.ahead) s).ahead := Nat.sub_pos_of_lt hrd
      omega
    rw [List.take_of_length_le (by rw [List.length_take] at hless; omega)]
    exact feed_codeBytes_inDataWait hc hf hm hcode
  · exact fun _ => endOfBytes_dataWait _

/-- Every code of a block brings its end nearer. -/
theorem runCode_ahead_lt (hn : s.rd.val < s.sbEnd.val) (hcode : CodeBytes s.cfg.c1 code)
    (hf : (runCode code s).fatal = false) : (runCode code s).ahead < s.ahead := by
  have hpos : 0 < s.ahead := Nat.sub_pos_of_lt hn
  obtain ⟨hlive, heq⟩ := andThen_live hf
  rw [runCode, heq]
  split
  · have hahead := feed_ahead _ s hlive
    have hlen := hcode.length_pos
    change (feed (code.take s.ahead) s).ahead ≤ s.ahead - (code.take s.ahead).length at hahead
    change (feed (code.take s.ahead) s).ahead < s.ahead
    rw [List.length_take] at hahead
    omega
  · next hend =>
    refine lt_of_le_of_lt (endOfBytes_steps _).ahead_le ?_
    rwa [State.ahead, Nat.sub_eq_zero_of_le (Nat.not_lt.1 hend)]

/-- `DecodeBlock` is the code at its head, and then the rest of the block unless the code halts the machine (R221,
R370). -/
theorem decodeBlock_eq_runCode (hc : s.cfg.c1.admissible = true) (hf : s.fatal = false) (hm : s.mode = .dataWait)
    (hcode : CodeBytes s.cfg.c1 code) (hb : code.take s.ahead <+: s.bytesAhead) :
    decodeBlock s = (runCode code s).andThen decodeBlock := by
  obtain ⟨rest, hb⟩ := hb
  have hlen := congrArg List.length hb
  rw [List.length_append, length_bytesAhead] at hlen
  have hrest : s.ahead - (code.take s.ahead).length = rest.length := by omega
  have hahead := feed_ahead (code.take s.ahead) s
  have hrun : runCode code s = (feed (code.take s.ahead) s).andThen fun t =>
    if t.rd.val < t.sbEnd.val then t else endOfBytes t := rfl
  rw [decodeBlock_eq_feed hf hb.symm fun j hj => feed_take_collects hc hf hm hcode hj, hrun]
  rw [hrest] at hahead
  generalize feed (code.take s.ahead) s = t at hahead ⊢
  cases htf : t.fatal with
  | true => rw [decodeLoop_of_halted _ htf, andThen_of_halted htf, andThen_of_halted htf, andThen_of_halted htf]
  | false =>
    rw [andThen_of_live htf]
    split
    · rw [andThen_of_live htf, decodeBlock, decodeLoop_fuel (hahead htf) le_rfl]
      rfl
    · next hend =>
      have hcursors := endOfBytes_cursors t
      have hrd : (endOfBytes t).rd = t.rd := (congrArg Cursors.rd hcursors :)
      have hsbEnd : (endOfBytes t).sbEnd = t.sbEnd := (congrArg Cursors.sbEnd hcursors :)
      have hlive : (endOfBytes t).fatal = false := by
        unfold endOfBytes
        split <;> exact htf
      rw [decodeLoop_of_end _ (Nat.not_lt.1 hend), andThen_of_live htf, andThen_of_live hlive,
        decodeBlock_of_end hlive (endOfBytes_dataWait t) (by rw [hrd, hsbEnd]; exact Nat.not_lt.1 hend)]

/-! ### The steps of a block -/

/-- The machine stands at a code boundary inside `ProcessBlock`, or at the end of the block (R198, R221). -/
structure State.AtBlockCode (s : State) : Prop where
  live : s.fatal = false
  phase : s.phase = .block
  dataWait : s.mode = .dataWait
  c1 : s.cfg.c1.admissible = true

/-- A step inside a block runs the code at its head, as far as the block holds it (R221). -/
theorem State.AtBlockCode.step_code (h : s.AtBlockCode) (hn : s.rd.val < s.sbEnd.val) :
    ∃ code, CodeBytes s.cfg.c1 code ∧ code.take s.ahead <+: s.bytesAhead ∧
      Machine.step s = .next (runCode code s) := by
  obtain ⟨i, rest, hd, hw, hl, hbytes⟩ := decodeCode_reads s.cfg.tags h.c1
    (bytes := s.bytesAhead ++ List.replicate maxCodeLen 0) (by simp)
  have hfetch : fetch s = some i := by
    rw [fetch_block h.phase hn, decode]
    exact congrArg decoded hd
  refine ⟨encode s.cfg.tags i, encode_codeBytes s.cfg.tags h.c1 hw hl, ?_, ?_⟩
  · have hhead := List.IsPrefix.take ⟨rest, hbytes⟩ s.ahead
    rwa [← length_bytesAhead, List.take_left, length_bytesAhead] at hhead
  · rw [step_of_fetch_of_parse_or_block h.live (.inr h.phase) hfetch, exec_of_level_code s.cfg.tags hl, code,
      live_of_live h.live]

/-- At the end of the block a step runs the last lines of `ProcessBlock` (R198). -/
theorem State.AtBlockCode.step_end (h : s.AtBlockCode) (hn : ¬ s.rd.val < s.sbEnd.val) :
    Machine.step s = .next (closeBlock s) := by
  rw [step_eq_stepInside h.live (by simp [h.phase])]
  simp only [stepInside, fetch, fetchBytes, endOfLoop, h.phase, if_neg hn, endOfBytes, if_pos h.dataWait,
    andThen_of_live h.live]

theorem State.AtBlockCode.next (h : s.AtBlockCode) (hcode : CodeBytes s.cfg.c1 code)
    (hf : (runCode code s).fatal = false) : (runCode code s).AtBlockCode where
  live := hf
  phase := (runCode_steps code s).phase.trans h.phase
  dataWait := runCode_inDataWait h.c1 h.live h.dataWait hcode hf
  c1 := by
    have hcfg : (runCode code s).cfg = s.cfg := (congrArg State.cfg (runCode_steps code s).frame :)
    rw [hcfg]
    exact h.c1

/-- Steps reach what `DecodeBlock` and the last lines of `ProcessBlock` answer: one step a code, and one for those;
a fatal condition ends the run where it ends the block (R370). -/
theorem State.AtBlockCode.run (h : s.AtBlockCode) :
    ∃ k, runSteps k s = some ((decodeBlock s).andThen closeBlock) := by
  induction hn : s.ahead using Nat.strong_induction_on generalizing s with
  | _ n ih =>
    by_cases hrd : s.rd.val < s.sbEnd.val
    · obtain ⟨code, hcode, hhead, hstep⟩ := h.step_code hrd
      rw [decodeBlock_eq_runCode h.c1 h.live h.dataWait hcode hhead]
      cases hf : (runCode code s).fatal with
      | true =>
        rw [andThen_of_halted hf, andThen_of_halted hf]
        exact ⟨1, runSteps_succ_of_next hstep⟩
      | false =>
        obtain ⟨k, hk⟩ := ih _ (hn ▸ runCode_ahead_lt hrd hcode hf) (h.next hcode hf) rfl
        exact ⟨k + 1, by rw [runSteps_succ_of_next hstep, hk, andThen_of_live hf]⟩
    · rw [decodeBlock_of_end h.live h.dataWait (Nat.not_lt.1 hrd), andThen_of_live h.live]
      exact ⟨1, runSteps_succ_of_next (h.step_end hrd)⟩

/-- The block as `ProcessBlock` opens it is at its first code (R198). -/
theorem openBlock_atBlockCode (hf : s.fatal = false) (hm : s.mode = .dataWait) (hc : s.cfg.c1.admissible = true)
    (ho : (openBlock s).fatal = false) : (openBlock s).AtBlockCode := by
  obtain ⟨n, heq | heq | ⟨i, q, -, -, heq⟩⟩ := openBlock_cases hf <;> rw [heq] at ho ⊢
  · exact ⟨hf, rfl, hm, hc⟩
  · cases ho
  · exact ⟨hf, rfl, hm, hc⟩

/-- Settles O58: the block as a whole and step by step are the same (`State.AtBlockCode.run`). -/
theorem blockRunsStepByStep : Obligations.BlockRunsStepByStep := by
  intro s hf hm hc ho
  obtain ⟨k, hk⟩ := (openBlock_atBlockCode hf hm hc ho).run
  refine ⟨k, _, live_of_live hf, ?_⟩
  rw [hk, processBlock, andThen_of_live ho]

end Sys2Proof.Machine
end

section
/-! What the decoder's registers hold between the bytes of a code (10_state.md R26 to R29, 43_decoder_c0.md R222
to R226, R241, 45_c1_commands.md R270, R271, 46_extended_codes.md R311). -/

namespace Sys2Proof.Machine

-- One proof at a time: in parallel they need more threads than the memory limit allows.
set_option Elab.async false

variable {s : State} {m : Mode} {b e : Byte} {len n : Nat} {payload bytes : List Byte}

/-! ### The payload in `acc` -/

theorem accWith_nil (acc : Vector Byte 6) : accWith [] acc = acc :=
  Vector.ext fun _ _ => by simp [accWith]

/-- One payload byte more (R226, R271). -/
theorem accWith_concat (payload : List Byte) (x : Byte) (acc : Vector Byte 6) :
    accWith (payload ++ [x]) acc = (accWith payload acc).setIfInBounds payload.length x := by
  refine Vector.ext fun j hj => ?_
  obtain hlt | rfl | hgt := Nat.lt_trichotomy j payload.length
  · simp [accWith, List.getElem?_append_left hlt, hlt.ne']
  · simp [accWith]
  · have hout : (payload ++ [x])[j]? = none := List.getElem?_eq_none (by simp; omega)
    simp [accWith, hout, hgt.ne, hgt.le]

/-! ### A code that collects its payload -/

theorem payloadCount_eq_zero : payloadCount n = 0 ↔ n = 0 := by
  rw [Fin.ext_iff]
  simp only [payloadCount_val, Fin.val_zero]
  omega

/-- A code with the first byte `b` is pending in mode `m`: of its `len` payload bytes the decoder has collected these
(R226, R271). -/
def State.collecting (m : Mode) (b : Byte) (len : Nat) (payload : List Byte) (s : State) : State :=
  { s.consumed (payload.length + 1) with
    mode := m, cmd := b, remaining := payloadCount (len - payload.length), accN := payloadCount payload.length
    acc := accWith payload s.acc }

/-- The first byte of a code in C0 or C1 that has a payload (R223, R270). -/
theorem collecting_nil (m : Mode) (b : Byte) (len : Nat) (s : State) :
    s.collecting m b len [] = enterPending m b (payloadCount len) (s.consumed 1) := by
  rw [State.collecting, accWith_nil]
  rfl

/-- The ending of the code (R225). -/
theorem complete_collecting (m : Mode) (b : Byte) (len : Nat) (payload : List Byte) (s : State) :
    complete (s.collecting m b len payload) = s.afterCode (payload.length + 1) b payload := rfl

/-- One payload byte more, of a code that has at most six of them (R241). -/
theorem collect_collecting (h : payload.length < len) (hlen : len ≤ 6) (x : Byte) (s : State) :
    collect x ((s.collecting m b len payload).consumed 1) = s.collecting m b len (payload ++ [x]) := by
  have hsize : (payload ++ [x]).length = payload.length + 1 := List.length_append
  have haccN : (payloadCount payload.length).val = payload.length := payloadCount_val_of_le (by omega)
  have hconsumed : (s.consumed (payload.length + 1)).consumed 1 = s.consumed ((payload ++ [x]).length + 1) := by
    rw [consumed_consumed, hsize]
  have hacc : (accWith payload s.acc).setIfInBounds (payloadCount payload.length).val x =
      accWith (payload ++ [x]) s.acc := by
    rw [haccN, accWith_concat]
  have hcount : payloadCount ((payloadCount payload.length).val + 1) = payloadCount (payload ++ [x]).length := by
    rw [haccN, hsize]
  have hleft : payloadCount ((payloadCount (len - payload.length)).val - 1) =
      payloadCount (len - (payload ++ [x]).length) :=
    Fin.ext (by simp only [payloadCount_val, hsize]; omega)
  conv_rhs => rw [State.collecting, ← hleft, ← hcount, ← hacc, ← hconsumed]
  rfl

/-- What the last byte of a code that collects its payload runs (R226, R271). -/
def State.pendingEnd (s : State) : State :=
  match s.mode with
  | .c0Pending => (if s.cmd = 0x18 then p16Complete s else raise (.unknownC0 s.cmd) s).andThen complete
  | _ => c1Complete s

theorem pendingEnd_of_c0Pending (hm : s.mode = .c0Pending) :
    s.pendingEnd =
      (if s.cmd = 0x18 then p16Complete s else raise (.unknownC0 s.cmd) s).andThen complete := by
  simp only [State.pendingEnd, hm]

/-- A payload byte is collected, and the last one ends the code (R226, R271). -/
theorem consume_collecting (hm : m = .c0Pending ∨ m = .c1Pending) (h : payload.length < len) (hlen : len ≤ 6)
    (x : Byte) (s : State) :
    consume x (s.collecting m b len payload) =
      if payload.length + 1 = len then (s.collecting m b len (payload ++ [x])).pendingEnd
      else s.collecting m b len (payload ++ [x]) := by
  have hsize : (payload ++ [x]).length = payload.length + 1 := List.length_append
  have hlast : (s.collecting m b len (payload ++ [x])).remaining = 0 ↔ payload.length + 1 = len := by
    simp only [State.collecting, payloadCount_eq_zero, hsize]
    omega
  simp only [← hlast, ← collect_collecting h hlen]
  obtain rfl | rfl := hm
  · rfl
  · rfl

/-- Payload bytes, up to the last. -/
theorem feed_collecting (hm : m = .c0Pending ∨ m = .c1Pending) (hf : s.fatal = false) (hlen : len ≤ 6)
    (h : payload.length < len) (hle : payload.length + bytes.length ≤ len) :
    feed bytes (s.collecting m b len payload) =
      if payload.length + bytes.length = len then (s.collecting m b len (payload ++ bytes)).pendingEnd
      else s.collecting m b len (payload ++ bytes) := by
  induction bytes generalizing payload with
  | nil => rw [feed_nil, List.length_nil, Nat.add_zero, if_neg h.ne, List.append_nil]
  | cons x bytes ih =>
    rw [List.length_cons] at hle ⊢
    rw [feed_cons_of_live (by exact hf), consume_collecting hm h hlen]
    by_cases hlast : payload.length + 1 = len
    · obtain rfl : bytes = [] := List.eq_nil_of_length_eq_zero (by omega)
      rw [if_pos hlast, feed_nil, List.length_nil, Nat.zero_add, if_pos hlast]
    · have hsize : (payload ++ [x]).length = payload.length + 1 := List.length_append
      rw [if_neg hlast, ih (by omega) (by omega), hsize, List.append_assoc, List.singleton_append, Nat.add_assoc,
        Nat.add_comm 1]

/-! ### The first byte of a code -/

theorem dataWaitByte_c0Single (h : b.toNat ≤ 0x0F) : dataWaitByte b s = c0Single b s := if_pos h

theorem dataWaitByte_c0Two (h : 0x11 ≤ b.toNat ∧ b.toNat ≤ 0x17) :
    dataWaitByte b s = enterPending .c0Pending b 1 s := by
  simp only [dataWaitByte]
  rw [if_neg (by omega), if_neg (by omega), if_pos h.2]

theorem dataWaitByte_c0Three (h : 0x18 ≤ b.toNat ∧ b.toNat ≤ 0x1F) :
    dataWaitByte b s = enterPending .c0Pending b 2 s := by
  simp only [dataWaitByte]
  rw [if_neg (by omega), if_neg (by omega), if_neg (by omega), if_pos h.2]

theorem dataWaitByte_c1 (h : 0x80 ≤ b.toNat ∧ b.toNat ≤ 0x9F) : dataWaitByte b s = c1Entry b s := by
  simp only [dataWaitByte]
  rw [if_neg (by omega), if_neg (by omega), if_neg (by omega), if_neg (by omega), if_neg (by omega), if_pos h.2]

theorem consume_c0Single (hm : s.mode = .dataWait) (h : b.toNat ≤ 0x0F) : consume b s = c0Single b (s.consumed 1) :=
  (consume_dataWait b hm).trans (dataWaitByte_c0Single h)

/-- C1 entry of a code without payload ends it (R270). -/
theorem consume_c1_of_no_payload (hm : s.mode = .dataWait) (hb : 0x80 ≤ b.toNat ∧ b.toNat ≤ 0x9F)
    (hlen : s.cfg.c1.lenOf b = 1) : consume b s = c1Complete (s.collecting .dataWait b 0 []) := by
  rw [consume_dataWait b hm, dataWaitByte_c1 hb, c1Entry, collecting_nil, ← hm]
  simp only [hlen]
  rfl

/-- The mode in which a code other than EXT1 collects its payload (R223, R270). -/
def pendingMode (b : Byte) : Mode := if b.toNat < 0x20 then .c0Pending else .c1Pending

theorem pendingMode_cases (b : Byte) : pendingMode b = .c0Pending ∨ pendingMode b = .c1Pending :=
  ite_eq_or_eq ..

/-- A code other than EXT1 that has a payload is pending after its first byte (R223, R270). -/
theorem consume_pendingCode (hm : s.mode = .dataWait) (hb : b ≠ 0x10) (hlen : totalLen s.cfg.c1 b = len + 1)
    (hpos : len ≠ 0) (hle : len ≤ 6) : consume b s = s.collecting (pendingMode b) b len [] := by
  obtain h | h | h : (0x11 ≤ b.toNat ∧ b.toNat ≤ 0x17) ∨ (0x18 ≤ b.toNat ∧ b.toNat ≤ 0x1F) ∨
      (0x80 ≤ b.toNat ∧ b.toNat ≤ 0x9F) := by
    unfold totalLen at hlen
    split_ifs at hlen <;> bv_omega
  · obtain rfl : len = 1 := by rw [totalLen_c0Two (by omega)] at hlen; omega
    rw [consume_dataWait b hm, dataWaitByte_c0Two h, collecting_nil, pendingMode, if_pos (by omega)]
    rfl
  · obtain rfl : len = 2 := by rw [totalLen_c0Three h] at hlen; omega
    rw [consume_dataWait b hm, dataWaitByte_c0Three h, collecting_nil, pendingMode, if_pos (by omega)]
    rfl
  · rw [totalLen_c1 h] at hlen
    rw [consume_dataWait b hm, dataWaitByte_c1 h, collecting_nil, pendingMode, if_neg (by omega), c1Entry]
    simp only [hlen, Nat.add_sub_cancel]
    exact if_neg (payloadCount_eq_zero.not.2 hpos)

/-- The bytes of such a code, up to the last (R226, R271). -/
theorem feed_pendingCode (hf : s.fatal = false) (hm : s.mode = .dataWait) (hb : b ≠ 0x10)
    (hlen : totalLen s.cfg.c1 b = len + 1) (hpos : len ≠ 0) (hle : len ≤ 6) (hbytes : bytes.length ≤ len) :
    feed (b :: bytes) s =
      if bytes.length = len then (s.collecting (pendingMode b) b len bytes).pendingEnd
      else s.collecting (pendingMode b) b len bytes := by
  have hrest := feed_collecting (b := b) (payload := []) (bytes := bytes) (pendingMode_cases b) hf hle
    (by rw [List.length_nil]; omega) (by rwa [List.length_nil, Nat.zero_add])
  rw [feed_cons_of_live hf, consume_pendingCode hm hb hlen hpos hle, hrest, List.length_nil, Nat.zero_add,
    List.nil_append]

/-! ### An extended code that skips its extra bytes -/

/-- The extended code `e` is pending: of its `len` extra bytes `n` have been discarded (46_extended_codes.md R311). -/
def State.skipping (e : Byte) (len n : Nat) (s : State) : State :=
  { s.consumed (n + 2) with
    mode := .extendedPending, cmd := e, extPhase := .skip, remaining := payloadCount (len - n) }

theorem complete_skipping (e : Byte) (len n : Nat) (s : State) :
    complete (s.skipping e len n) = s.afterCode (n + 2) e [] := by
  rw [State.afterCode, accWith_nil]
  rfl

/-- An extra byte that is not the last is only counted (R311). -/
theorem consume_skipping (h : n + 1 < len) (hlen : len ≤ 6) (x : Byte) (s : State) :
    consume x (s.skipping e len n) = s.skipping e len (n + 1) := by
  have hleft : payloadCount ((payloadCount (len - n)).val - 1) = payloadCount (len - (n + 1)) :=
    Fin.ext (by simp only [payloadCount_val]; omega)
  have hcount : countDown ((s.skipping e len n).consumed 1) = s.skipping e len (n + 1) := by
    conv_rhs => rw [State.skipping, ← hleft, Nat.add_right_comm, ← consumed_consumed]
    rfl
  change extSkipByte ((s.skipping e len n).consumed 1) = _
  rw [extSkipByte, hcount]
  exact if_neg (payloadCount_eq_zero.not.2 (by omega))

theorem feed_skipping (hf : s.fatal = false) (hlen : len ≤ 6) (h : n + bytes.length < len) :
    feed bytes (s.skipping e len n) = s.skipping e len (n + bytes.length) := by
  induction bytes generalizing n with
  | nil => rfl
  | cons x bytes ih =>
    rw [List.length_cons] at h ⊢
    rw [feed_cons_of_live (by exact hf), consume_skipping (by omega) hlen, ih (by omega), Nat.add_assoc,
      Nat.add_comm 1]

/-- An extended code that has extra bytes is pending after its code byte (R311). -/
theorem extCodeByte_of_extra (hlen : totalLenExtended e = len + 2) (hpos : len ≠ 0) :
    extCodeByte e s = { s with cmd := e, remaining := payloadCount len, extPhase := .skip } := by
  unfold extCodeByte
  dsimp only
  by_cases hc2 : e.toNat ≤ 0x1F
  · obtain rfl : len = c2Extra e := by rw [totalLenExtended_c2 hc2] at hlen; omega
    rw [if_pos hc2, if_neg (payloadCount_eq_zero.not.2 hpos)]
  · have hc3 : 0x80 ≤ e.toNat ∧ e.toNat ≤ 0x8F := by
      unfold totalLenExtended at hlen
      split_ifs at hlen <;> omega
    obtain rfl : len = c3Extra e := by rw [totalLenExtended_c3 hc3] at hlen; omega
    rw [if_neg hc2, if_neg (by omega), if_pos hc3.2]

/-- The bytes of such a code, before the last (R311). -/
theorem feed_extendedCode (hf : s.fatal = false) (hm : s.mode = .dataWait) (hlen : totalLenExtended e = len + 2)
    (hle : len ≤ 6) (h : bytes.length < len) :
    feed (0x10 :: e :: bytes) s = s.skipping e len bytes.length := by
  have hcode : consume e (consume 0x10 s) = s.skipping e len 0 := by
    rw [consume_dataWait 0x10 hm, dataWaitByte_ext1, consume_extCode e rfl rfl,
      extCodeByte_of_extra hlen (by omega), State.skipping, ← consumed_consumed 1 1]
    rfl
  rw [feed_cons_of_live hf, feed_cons_of_live ((consume_ext1 hm).1.fatal.trans hf), hcode,
    feed_skipping hf hle (by omega), Nat.zero_add]

end Sys2Proof.Machine
end

section
/-! How the codes of C0, the reserved codes of C1, and the codes that their block cuts off come out (43_decoder_c0.md
R224, R230 to R240, 45_c1_commands.md R272, R296). -/

namespace Sys2Proof.Machine

-- One proof at a time: in parallel they need more threads than the memory limit allows.
set_option Elab.async false

variable {s t : State} {b e : Byte} {i k n len : Nat} {p : Slot} {payload code rest : List Byte}

/-! ### A code that lies in its block -/

/-- A code whose bytes lie in the block and take the decoder back to DATA_WAIT means what they do (R221). -/
theorem code_of_fits (hf : s.fatal = false) (hfits : s.rd.val + code.length ≤ s.sbEnd.val) (hfeed : feed code s = t)
    (hm : t.mode = .dataWait) : Machine.code code s = .next t := by
  have hend : endOfBytes t = t := if_pos hm
  rw [Machine.code, live_of_live hf, runCode_of_fits hfits, hfeed]
  refine congrArg _ (andThen_induct (P := (· = t)) rfl fun _ _ => ?_)
  rw [hend, ite_self]

/-- A unit that finds room goes into the output buffer (10_state.md R36, R37). -/
theorem emit_of_outSlot (h : s.OutSlot i p) (body : Body) : emit body s = s.withUnit i p body := by
  obtain ⟨hout, hp, huse, hroom⟩ := h
  exact emit_of_room hout hp huse hroom.ne

/-- The first two payload bytes of a code. -/
theorem accByte_atP16 (p1 p2 : Byte) (s : State) :
    accByte (s.atP16 p1 p2) 0 = p1 ∧ accByte (s.atP16 p1 p2) 1 = p2 := by
  simp [accByte, State.atP16, accWith]

/-- A reserved code of C0 ends with its event alone (R238, R240). -/
theorem pendingEnd_of_c0Reserved (hf : s.fatal = false) (hb : b.toNat < 0x20) (hp16 : b ≠ 0x18) :
    (s.collecting (pendingMode b) b len payload).pendingEnd =
      raise (.unknownC0 b) (s.afterCode (payload.length + 1) b payload) := by
  have hmode : (s.collecting (pendingMode b) b len payload).mode = .c0Pending := if_pos hb
  rw [pendingEnd_of_c0Pending hmode, if_neg (by exact hp16), andThen_of_live (by exact hf)]
  rfl

theorem feed_c0Reserved (hf : s.fatal = false) (hm : s.mode = .dataWait)
    (hb : 0x11 ≤ b.toNat ∧ b.toNat ≤ 0x1F) (hp16 : b ≠ 0x18) (hlen : totalLen s.cfg.c1 b = payload.length + 1)
    (hpos : payload.length ≠ 0) (hle : payload.length ≤ 6) :
    feed (b :: payload) s = raise (.unknownC0 b) (s.afterCode (payload.length + 1) b payload) := by
  rw [feed_pendingCode hf hm (by bv_omega) hlen hpos hle le_rfl, if_pos rfl,
    pendingEnd_of_c0Reserved hf (by omega) hp16]

/-- The bytes of a C1 code carry it to `C1_complete()` (45_c1_commands.md R270 to R272). -/
theorem feed_c1Code (hf : s.fatal = false) (hm : s.mode = .dataWait) (hc : s.cfg.c1.admissible = true)
    (hb : 0x80 ≤ b.toNat ∧ b.toNat ≤ 0x9F) (hlen : payload.length + 1 = s.cfg.c1.lenOf b) :
    ∃ m, feed (b :: payload) s = c1Complete (s.collecting m b payload.length payload) := by
  obtain ⟨-, hmax⟩ := C1Table.lenOf_bounds hc b
  by_cases hpos : payload.length = 0
  · obtain rfl := List.eq_nil_of_length_eq_zero hpos
    exact ⟨_, by rw [feed_cons_of_live hf, feed_nil]; exact consume_c1_of_no_payload hm hb hlen.symm⟩
  · refine ⟨.c1Pending, ?_⟩
    rw [feed_pendingCode hf hm (by bv_omega) ((totalLen_c1 hb).trans hlen.symm) hpos (by omega) le_rfl, if_pos rfl,
      pendingMode, if_neg (by omega)]
    rfl

theorem c1Complete_of_reserved (hf : s.fatal = false) (hr : s.cfg.c1.isReserved s.cmd = true) :
    c1Complete s = raise (.reservedC1 s.cmd) (complete s) := by
  rw [c1Complete, if_pos hr, andThen_of_live (by exact hf)]
  rfl

/-- Reserved codes are C1 codes (45_c1_commands.md R273). -/
theorem C1Table.code_of_isReserved {c : C1Table} (hc : c.admissible = true) (hr : c.isReserved b = true) :
    0x80 ≤ b.toNat ∧ b.toNat ≤ 0x9F := by
  simp only [C1Table.admissible, Bool.and_eq_true, List.all_eq_true, decide_eq_true_eq] at hc
  obtain ⟨⟨⟨⟨⟨⟨-, hcodes⟩, -⟩, -⟩, -⟩, -⟩, -⟩ := hc
  exact hcodes b (List.contains_iff_mem.1 hr)

/-! ### A code that its block cuts off -/

/-- A code of which the block holds only the first bytes is truncated behind them (R224). -/
theorem runCode_of_cut (hc : s.cfg.c1.admissible = true) (hf : s.fatal = false) (hm : s.mode = .dataWait)
    (hcode : CodeBytes s.cfg.c1 code) (hpos : 0 < s.ahead) (hcut : s.ahead < code.length) :
    runCode code s = truncated (feed (code.take s.ahead) s) := by
  obtain ⟨j, hj⟩ := Nat.exists_eq_add_one_of_ne_zero hpos.ne'
  obtain ⟨hcollect, hmode⟩ := feed_codeBytes_cut hc hf hm hcode (j := j) (by omega)
  rw [← hj] at hcollect hmode
  have hlive : (feed (code.take s.ahead) s).fatal = false := hcollect.fatal.trans hf
  have hend : (feed (code.take s.ahead) s).ahead = 0 := by
    have hahead := feed_ahead _ s hlive
    rw [List.length_take_of_le hcut.le] at hahead
    omega
  have hrd : ¬ (feed (code.take s.ahead) s).rd.val < (feed (code.take s.ahead) s).sbEnd.val := by
    rw [State.ahead] at hend
    omega
  exact (andThen_of_live hlive _).trans ((if_neg hrd).trans (if_neg hmode))

/-- The record of a truncation says what the registers hold, and then the decoder is idle (R224, R225). -/
theorem truncated_eq (s : State) :
    truncated s = raise (.decodeTruncated s.cmd s.mode s.remaining.val) (complete s) := rfl

/-- A code other than EXT1 that is cut off in its payload (R226, R271). -/
theorem truncated_pendingCode (hf : s.fatal = false) (hm : s.mode = .dataWait) (hb : b ≠ 0x10)
    (hlen : totalLen s.cfg.c1 b = rest.length + 1) (hle : rest.length ≤ 6) (hk : k < rest.length) :
    truncated (feed (b :: rest.take k) s) =
      raise (.decodeTruncated b (pendingMode b) (rest.length - k)) (s.afterCode (k + 1) b (rest.take k)) := by
  have htake : (rest.take k).length = k := List.length_take_of_le hk.le
  rw [feed_pendingCode hf hm hb hlen (by omega) hle (by omega), if_neg (by omega), truncated_eq, complete_collecting,
    htake]
  simp only [State.collecting, htake, payloadCount_val_of_le ((Nat.sub_le ..).trans hle)]

/-- An extended code that is cut off in its extra bytes (R311). -/
theorem truncated_extendedCode (hf : s.fatal = false) (hm : s.mode = .dataWait)
    (hlen : totalLenExtended e = rest.length + 2) (hle : rest.length ≤ 6) (hk : k < rest.length) :
    truncated (feed (0x10 :: e :: rest.take k) s) =
      raise (.decodeTruncated e .extendedPending (rest.length - k)) (s.afterCode (k + 2) e []) := by
  have htake : (rest.take k).length = k := List.length_take_of_le hk.le
  rw [feed_extendedCode hf hm hlen hle (by omega), truncated_eq, complete_skipping, htake]
  simp only [State.skipping, payloadCount_val_of_le ((Nat.sub_le ..).trans hle)]

/-- EXT1 alone: the extended code byte is still needed (R223). -/
theorem truncated_ext1 (hf : s.fatal = false) (hm : s.mode = .dataWait) :
    truncated (feed [0x10] s) = raise (.decodeTruncated 0x10 .extendedPending 1) (s.afterCode 1 0x10 []) := by
  rw [feed_cons_of_live hf, feed_nil, consume_dataWait 0x10 hm, dataWaitByte_ext1, State.afterCode, accWith_nil]
  rfl

/-- Every code is at most seven bytes long (30_encoding.md R98, R99, 45_c1_commands.md R270). -/
theorem CodeBytes.length_le {c : C1Table} (hc : c.admissible = true) (h : CodeBytes c code) : code.length ≤ 7 := by
  cases h with
  | @plain b rest _ hlen =>
    obtain ⟨-, hmax⟩ := C1Table.lenOf_bounds hc b
    rw [List.length_cons, hlen]
    unfold totalLen
    split_ifs <;> omega
  | @extended e rest hlen =>
    rw [List.length_cons, List.length_cons, hlen]
    unfold totalLenExtended c2Extra c3Extra
    split_ifs <;> omega

/-- A cut code leaves its record and its registers as the statement names them, kind by kind (R224). -/
theorem truncated_of_cut (hc : s.cfg.c1.admissible = true) (hf : s.fatal = false) (hm : s.mode = .dataWait)
    (hcode : CodeBytes s.cfg.c1 code) (hpos : 0 < k) (hcut : k < code.length) :
    truncated (feed (code.take k) s) =
      raise (cutRecord code k) (s.afterCode k (cutTag code k) (cutPayload code k)) := by
  have hmax := hcode.length_le hc
  cases hcode with
  | @plain b rest hb hlen =>
    obtain ⟨k, rfl⟩ := Nat.exists_eq_add_one_of_ne_zero hpos.ne'
    rw [List.length_cons] at hcut hmax
    have hrecord : cutRecord (b :: rest) (k + 1) = .decodeTruncated b (pendingMode b) (rest.length - k) := by
      simp only [cutRecord, pendingMode, List.headD_cons, if_neg hb, List.length_cons, Nat.add_sub_add_right]
      split <;> rfl
    have htag : cutTag (b :: rest) (k + 1) = b := if_neg fun h => hb h.1
    have hpayload : cutPayload (b :: rest) (k + 1) = rest.take k := if_neg hb
    rw [List.take_succ_cons, truncated_pendingCode hf hm hb hlen.symm (by omega) (by omega), hrecord, htag, hpayload]
  | @extended e rest hlen =>
    match k, hpos with
    | 1, _ => exact truncated_ext1 hf hm
    | k + 2, _ =>
      rw [List.length_cons, List.length_cons] at hcut hmax
      have hrecord : cutRecord (0x10 :: e :: rest) (k + 2) =
          .decodeTruncated e .extendedPending (rest.length - k) := by
        simp [cutRecord]
      have htag : cutTag (0x10 :: e :: rest) (k + 2) = e := if_pos ⟨rfl, by omega⟩
      have hpayload : cutPayload (0x10 :: e :: rest) (k + 2) = [] := if_pos rfl
      rw [List.take_succ_cons, List.take_succ_cons, truncated_extendedCode hf hm hlen.symm (by omega) (by omega),
        hrecord, htag, hpayload]

/-- Behind the last byte of the block `rd` is at its end. -/
theorem afterCode_of_end (hk : s.rd.val + k = s.sbEnd.val) (tag : Byte) :
    { s.afterCode k tag payload with rd := s.sbEnd } = s.afterCode k tag payload := by
  have hrd : cursor (s.rd.val + k) = s.sbEnd := Fin.ext (by rw [hk, cursor_val]; omega)
  rw [State.afterCode, hrd]

end Sys2Proof.Machine
end

section
/-! The statements of 43_decoder_c0.md on C0, the reserved codes and the codes that are cut off. -/

namespace Sys2Proof.Machine

-- One proof at a time: in parallel they need more threads than the memory limit allows.
set_option Elab.async false

/-- The meaning of a single-byte C0 code is its byte (R230 to R236). -/
theorem exec_c0Single {ins : Instr} {b : Byte}
    (h : (ins, b) ∈ [(Instr.nul, 0x00#8), (.etx, 0x03#8), (.bs, 0x08#8), (.ff, 0x0C#8), (.cr, 0x0D#8),
      (.hcr, 0x0E#8)] ∨ (ins = .c0Unk1 b ∧ b.toNat ≤ 0x0F)) (s : State) :
    exec ins s = code [b] s ∧ b.toNat ≤ 0x0F := by
  obtain h | ⟨rfl, hle⟩ := h
  · simp only [List.mem_cons, Prod.mk.injEq, List.not_mem_nil, or_false] at h
    obtain ⟨rfl, rfl⟩ | ⟨rfl, rfl⟩ | ⟨rfl, rfl⟩ | ⟨rfl, rfl⟩ | ⟨rfl, rfl⟩ | ⟨rfl, rfl⟩ := h <;>
      exact ⟨rfl, by decide⟩
  · exact ⟨rfl, hle⟩

/-- Settles O30: the byte is `c0Single` on the state behind it. -/
theorem singleByteC0 : Obligations.SingleByteC0 := by
  intro s ins b ⟨hf, hm, hfits⟩ hins
  obtain ⟨hexec, hb⟩ := exec_c0Single hins s
  have hfeed : feed [b] s = c0Single b (s.consumed 1) := by
    rw [feed_cons_of_live hf, feed_nil, consume_c0Single hm hb]
  rw [hexec]
  refine ⟨fun i p hknown hout => ?_, fun hunknown => ?_⟩
  · refine code_of_fits hf hfits (hfeed.trans ?_) hm
    exact (if_pos hknown).trans (emit_of_outSlot (s := s.consumed 1) hout _)
  · exact code_of_fits hf hfits (hfeed.trans (if_neg hunknown)) hm

/-- Settles O31: the codes of C0 by `feed_c0Reserved`; a reserved code of C1 comes to `C1_complete()`, with a payload or
without (`feed_c1Code`), and ends there with its event. -/
theorem reservedCodes : Obligations.ReservedCodes := by
  intro s b p1 p2 r
  refine ⟨fun hlo hhi ⟨hf, hm, hfits⟩ => ?rsv2, fun hlo hhi ⟨hf, hm, hfits⟩ => ?rsv3,
    fun hc hr hlen ⟨hf, hm, hfits⟩ => ?c1⟩
  case rsv2 =>
    exact code_of_fits (code := [b, p1]) hf hfits
      (feed_c0Reserved hf hm (by omega) (by bv_omega) (totalLen_c0Two (by omega)) (by simp) (by simp)) rfl
  case rsv3 =>
    exact code_of_fits (code := [b, p1, p2]) hf hfits
      (feed_c0Reserved hf hm (by omega) (by bv_omega) (totalLen_c0Three (by omega)) (by simp) (by simp)) rfl
  case c1 =>
    obtain ⟨m, hfeed⟩ := feed_c1Code hf hm hc (C1Table.code_of_isReserved hc hr) hlen
    have hend := c1Complete_of_reserved (s := s.collecting m r.code r.payload.length r.payload) hf hr
    rw [complete_collecting] at hend
    rw [Nat.add_comm 1] at hfits ⊢
    exact code_of_fits (code := r.code :: r.payload) hf hfits (hfeed.trans hend) rfl

/-- Settles O32: the two bytes are collected (`feed_p16`), and the unit finds room. -/
theorem p16Recorded : Obligations.P16Recorded := by
  intro s i p p1 p2 ⟨hf, hm, hfits⟩ hout
  refine code_of_fits (code := [0x18, p1, p2]) hf hfits ?_ rfl
  obtain ⟨hfirst, hsecond⟩ := accByte_atP16 p1 p2 s
  have hemit := emit_of_outSlot (s := s.atP16 p1 p2) hout (.c0P16 p1 p2)
  rw [feed_p16 p1 p2 hf hm, p16Complete, hfirst, hsecond, hemit,
    andThen_of_live (s := (s.atP16 p1 p2).withUnit i p _) hf, andThen_of_live (by exact hf)]
  rfl

/-- Settles O43: the code is truncated behind what the block holds of it (`runCode_of_cut`), and the record and the
registers are those of its kind (`truncated_of_cut`). -/
theorem cutCodeIsTruncated : Obligations.CutCodeIsTruncated := by
  intro s ins hf hm hc hw hl
  dsimp only
  intro hpos hcut
  have hcode := encode_codeBytes s.cfg.tags hc hw hl
  have hrun := runCode_of_cut hc hf hm hcode hpos hcut
  rw [exec_of_level_code s.cfg.tags hl, code, live_of_live hf, hrun, afterCode_of_end (by omega)]
  exact congrArg _ (truncated_of_cut hc hf hm hcode hpos hcut)

end Sys2Proof.Machine
end

section
/-! The characters: the codes of G0 and G1, each one unit with its entry of the glyph ROM (44_chars_g0_g1.md R260 to
R263). -/

namespace Sys2Proof.Machine

-- One proof at a time: in parallel they need more threads than the memory limit allows.
set_option Elab.async false

variable {s : State} {b : Byte} {i : Nat} {p : Slot} {body : Body}

/-- Every code in the range of a ROM table has an entry, the table beginning at code `base` (R261, R263). -/
theorem getElem?_romGlyph {table : List Glyph} {base : Nat} (h : b.toNat - base < table.length) :
    table[b.toNat - base]? = some (romGlyph table base b) := by
  rw [romGlyph, List.getD_eq_getElem table _ h, List.getElem?_eq_getElem h]

theorem consume_g1 (hm : s.mode = .dataWait) (hb : 0xA0 ≤ b.toNat) : consume b s = g1Char b (s.consumed 1) := by
  rw [consume_dataWait b hm, dataWaitByte]
  dsimp only
  rw [if_neg (by omega), if_neg (by omega), if_neg (by omega), if_neg (by omega), if_neg (by omega),
    if_neg (by omega)]
  rfl

/-- A byte that only emits a unit puts it into the output buffer where there is room (43_decoder_c0.md R220, R221). -/
theorem code_of_consume_emit (hat : s.AtCode 1) (hout : s.OutSlot i p)
    (hconsume : consume b s = emit body (s.consumed 1)) :
    code [b] s = .next ((s.consumed 1).withUnit i p body) := by
  obtain ⟨hf, hm, hfits⟩ := hat
  refine code_of_fits hf hfits ?_ hm
  rw [feed_cons_of_live hf, feed_nil, hconsume, emit_of_outSlot (s := s.consumed 1) hout]

/-- Settles O33: the ROM table has an entry for the code (`getElem?_romGlyph`), and the unit with it finds room. -/
theorem characterIsEmitted : Obligations.CharacterIsEmitted := by
  intro s i p b hat hout
  have ⟨_, hm, _⟩ := hat
  refine ⟨fun hlen hlo hhi => ?g0, fun hlen hlo => ?g1⟩
  case g0 =>
    exact ⟨_, getElem?_romGlyph (by omega), code_of_consume_emit hat hout (consume_g0 hm ⟨hlo, hhi⟩)⟩
  case g1 =>
    exact ⟨_, getElem?_romGlyph (by omega), code_of_consume_emit hat hout (consume_g1 hm hlo)⟩

end Sys2Proof.Machine
end

section
/-! How a C1 command that the tables do not reserve comes out: its payload is in `acc`, the rule of its code runs on it,
and the code is completed (45_c1_commands.md R270 to R273). -/

namespace Sys2Proof.Machine

-- One proof at a time: in parallel they need more threads than the memory limit allows.
set_option Elab.async false

variable {s t : State} {m : Mode} {b : Byte} {i k len : Nat} {p : Slot} {body : Body} {payload : List Byte}

/-! ### A command in its block -/

/-- `b` is a C1 code whose rule names a format of `n` bytes (30_encoding.md R104 to R112). -/
abbrev C1Format (b : Byte) (n : Nat) : Prop :=
  (0x80 ≤ b.toNat ∧ b.toNat ≤ 0x9F) ∧ c1FormatLen.getD (b.toNat - 0x80) 0 = n

/-- Where the code is not reserved, `C1_complete()` is its rule and the common ending (R272). -/
theorem c1Complete_of_rule (hr : s.cfg.c1.isReserved s.cmd = false) (hrule : c1Rule s = t) (ht : t.fatal = false) :
    c1Complete s = complete t := by
  rw [c1Complete, if_neg (by simp [hr]), hrule, andThen_of_live ht]

/-- A command that lies in its block does what its rule does on the collected payload, and is completed (R270 to
R273). -/
theorem code_of_c1Rule (hc : s.cfg.c1.admissible = true) (hr : s.cfg.c1.isReserved b = false)
    (hb : C1Format b (payload.length + 1)) (hat : s.AtCode (payload.length + 1))
    (hrule : ∀ m, ∃ u, c1Rule (s.collecting m b payload.length payload) = u ∧ u.fatal = false ∧ complete u = t) :
    code (b :: payload) s = .next t := by
  obtain ⟨hf, hm, hfits⟩ := hat
  obtain ⟨hcode, hformat⟩ := hb
  have hlen : s.cfg.c1.lenOf b = payload.length + 1 := (C1Table.lenOf_of_not_reserved hc hcode hr).trans hformat
  obtain ⟨m, hfeed⟩ := feed_c1Code hf hm hc hcode hlen.symm
  obtain ⟨u, hu, hlive, rfl⟩ := hrule m
  have hend : c1Complete (s.collecting m b payload.length payload) = complete u := c1Complete_of_rule hr hu hlive
  exact code_of_fits (code := b :: payload) hf hfits (hfeed.trans hend) rfl

/-- The unit of a pending command finds the room that its first byte found. -/
theorem emit_collecting (hout : s.OutSlot i p) (body : Body) :
    emit body (s.collecting m b len payload) = (s.collecting m b len payload).withUnit i p body :=
  emit_of_outSlot (s := s.collecting m b len payload) hout body

theorem complete_withUnit_collecting :
    complete ((s.collecting m b len payload).withUnit i p body) =
      (s.afterCode (payload.length + 1) b payload).withUnit i p body := rfl

/-- A command whose rule only emits a unit (R274 to R286). -/
theorem code_of_c1Emit (hc : s.cfg.c1.admissible = true) (hr : s.cfg.c1.isReserved b = false)
    (hb : C1Format b (payload.length + 1)) (hat : s.AtCode (payload.length + 1)) (hout : s.OutSlot i p)
    (hrule : ∀ m, c1Rule (s.collecting m b payload.length payload) =
      emit body (s.collecting m b payload.length payload)) :
    code (b :: payload) s = .next ((s.afterCode (payload.length + 1) b payload).withUnit i p body) := by
  have ⟨hf, _⟩ := hat
  refine code_of_c1Rule hc hr hb hat fun m => ⟨_, (hrule m).trans (emit_collecting hout body), hf, ?_⟩
  exact complete_withUnit_collecting

/-! ### The rules on a collected payload -/

/-- `p(k+1)` of a command is the payload byte collected as number `k` (10_state.md R29, R271). -/
@[simp] theorem accByte_collecting (h : k < payload.length) (hk : k < 6) :
    accByte (s.collecting m b len payload) k = payload[k] := by
  simp [accByte, State.collecting, accWith, h, hk]

@[simp] theorem collecting_cmd : (s.collecting m b len payload).cmd = b := rfl
@[simp] theorem collecting_sbSvc : (s.collecting m b len payload).sbSvc = s.sbSvc := rfl

theorem c1Rule_noPayload (h : b.toNat ≤ 0x87 ∨ (0x8E ≤ b.toNat ∧ b.toNat ≤ 0x8F)) :
    c1Rule (s.collecting m b len payload) = emit (.c1 b .none) (s.collecting m b len payload) := by
  unfold c1Rule
  dsimp only
  rw [collecting_cmd]
  obtain h | h := h
  · exact if_pos h
  · rw [if_neg (by omega), if_neg (by omega), if_neg (by omega), if_pos h.2]
    rfl

theorem c1Rule_bitmap (h : 0x88 ≤ b.toNat ∧ b.toNat ≤ 0x8C) (p1 : Byte) :
    c1Rule (s.collecting m b len [p1]) = emit (.c1 b (.windowBitmap p1)) (s.collecting m b len [p1]) := by
  unfold c1Rule
  dsimp only
  rw [collecting_cmd, if_neg (by omega), if_pos h.2]
  simp [ruleBitmap]

theorem c1Rule_delay (p1 : Byte) :
    c1Rule (s.collecting m 0x8D len [p1]) = emit (.c1 0x8D (.delay p1)) (s.collecting m 0x8D len [p1]) := by
  have hrule : c1Rule (s.collecting m 0x8D len [p1]) = ruleDelay (s.collecting m 0x8D len [p1]) := rfl
  rw [hrule]
  simp [ruleDelay]

theorem c1Rule_penAttributes (p1 p2 : Byte) :
    c1Rule (s.collecting m 0x90 len [p1, p2]) =
      emit (.c1 0x90 (.penAttributes (penAttributes p1 p2))) (s.collecting m 0x90 len [p1, p2]) := by
  have hrule : c1Rule (s.collecting m 0x90 len [p1, p2]) = rulePenAttributes (s.collecting m 0x90 len [p1, p2]) := rfl
  rw [hrule]
  simp [rulePenAttributes]

theorem c1Rule_penColor (p1 p2 p3 : Byte) :
    c1Rule (s.collecting m 0x91 len [p1, p2, p3]) =
      emit (.c1 0x91 (.penColor (penColor p1 p2 p3))) (s.collecting m 0x91 len [p1, p2, p3]) := by
  have hrule : c1Rule (s.collecting m 0x91 len [p1, p2, p3]) =
      rulePenColor (s.collecting m 0x91 len [p1, p2, p3]) := rfl
  rw [hrule]
  simp [rulePenColor]

theorem c1Rule_penLocation (p1 p2 : Byte) :
    c1Rule (s.collecting m 0x92 len [p1, p2]) =
      emit (.c1 0x92 (.penLocation (penLocation p1 p2))) (s.collecting m 0x92 len [p1, p2]) := by
  have hrule : c1Rule (s.collecting m 0x92 len [p1, p2]) = rulePenLocation (s.collecting m 0x92 len [p1, p2]) := rfl
  rw [hrule]
  simp [rulePenLocation]

theorem c1Rule_windowAttributes (p1 p2 p3 p4 : Byte) :
    c1Rule (s.collecting m 0x97 len [p1, p2, p3, p4]) =
      emit (.c1 0x97 (.windowAttributes (windowAttributes p1 p2 p3 p4)))
        (s.collecting m 0x97 len [p1, p2, p3, p4]) := by
  have hrule : c1Rule (s.collecting m 0x97 len [p1, p2, p3, p4]) =
      ruleWindowAttributes (s.collecting m 0x97 len [p1, p2, p3, p4]) := rfl
  rw [hrule]
  simp [ruleWindowAttributes]

/-! ### DefineWindow -/

/-- The fields of DefineWindow in the bit ranges in which R287 writes them. -/
theorem windowDefinition_eq (b p1 p2 p3 p4 p5 p6 : Byte) :
    windowDefinition b p1 p2 p3 p4 p5 p6 = windowDefinitionOf b p1 p2 p3 p4 p5 p6 := rfl

theorem c1Rule_defineWindow (h : 0x98 ≤ b.toNat) (p1 p2 p3 p4 p5 p6 : Byte) :
    c1Rule (s.collecting m b len [p1, p2, p3, p4, p5, p6]) =
      (emit (.c1 b (.windowDefinition (windowDefinitionOf b p1 p2 p3 p4 p5 p6)))
        (s.collecting m b len [p1, p2, p3, p4, p5, p6])).andThen (classify s.sbSvc (p6.extractLsb 5 3)) := by
  unfold c1Rule
  dsimp only
  rw [collecting_cmd, if_neg (by omega), if_neg (by omega), if_neg (by omega), if_neg (by omega), if_neg (by omega),
    if_neg (by omega), if_neg (by omega), if_neg (by omega), if_neg (by omega)]
  simp [ruleDefineWindow, windowDefinition_eq, windowDefinitionOf]

theorem classify_fatal (svc : BitVec 6) (ws : BitVec 3) (s : State) : (classify svc ws s).fatal = s.fatal :=
  (congrArg Prod.fst (classify_outcome svc ws s) :)

/-- The classifier neither reads nor writes what `Complete()` writes (43_decoder_c0.md R225, 47_style_classifier.md
R342). -/
theorem complete_classify (svc : BitVec 6) (ws : BitVec 3) (s : State) :
    complete (classify svc ws s) = classify svc ws (complete s) := by
  have hold : styleOf (complete s) svc = styleOf s svc := rfl
  unfold classify
  dsimp only [complete_cfg]
  rw [hold]
  split; · rfl
  split; · rfl
  split <;> rfl

/-- A command whose rule emits a unit and calls the classifier (R287). -/
theorem code_of_c1EmitClassify {svc : BitVec 6} {ws : BitVec 3} (hc : s.cfg.c1.admissible = true)
    (hr : s.cfg.c1.isReserved b = false) (hb : C1Format b (payload.length + 1)) (hat : s.AtCode (payload.length + 1))
    (hout : s.OutSlot i p)
    (hrule : ∀ m, c1Rule (s.collecting m b payload.length payload) =
      (emit body (s.collecting m b payload.length payload)).andThen (classify svc ws)) :
    code (b :: payload) s =
      .next (classify svc ws ((s.afterCode (payload.length + 1) b payload).withUnit i p body)) := by
  have ⟨hf, _⟩ := hat
  refine code_of_c1Rule hc hr hb hat fun m => ⟨_, hrule m, ?_⟩
  have hlive : ((s.collecting m b payload.length payload).withUnit i p body).fatal = false := hf
  rw [emit_collecting hout, andThen_of_live hlive, classify_fatal, complete_classify, complete_withUnit_collecting]
  exact ⟨hlive, rfl⟩

end Sys2Proof.Machine
end

section
/-! The statements of 45_c1_commands.md on the C1 commands. -/

namespace Sys2Proof.Machine

-- One proof at a time: in parallel they need more threads than the memory limit allows.
set_option Elab.async false

variable {ins : Instr} {b : Byte}

/-- The meaning of a command without payload is its byte (R274, R281, R282). -/
theorem exec_c1WithoutPayload
    (h : (ins, b) ∈ [(Instr.cw0, 0x80#8), (.cw1, 0x81#8), (.cw2, 0x82#8), (.cw3, 0x83#8), (.cw4, 0x84#8),
      (.cw5, 0x85#8), (.cw6, 0x86#8), (.cw7, 0x87#8), (.dlc, 0x8E#8), (.rst, 0x8F#8)]) (s : State) :
    exec ins s = code [b] s ∧ C1Format b 1 ∧ (b.toNat ≤ 0x87 ∨ (0x8E ≤ b.toNat ∧ b.toNat ≤ 0x8F)) := by
  simp only [List.mem_cons, Prod.mk.injEq, List.not_mem_nil, or_false] at h
  obtain ⟨rfl, rfl⟩ | ⟨rfl, rfl⟩ | ⟨rfl, rfl⟩ | ⟨rfl, rfl⟩ | ⟨rfl, rfl⟩ | ⟨rfl, rfl⟩ | ⟨rfl, rfl⟩ | ⟨rfl, rfl⟩ |
    ⟨rfl, rfl⟩ | ⟨rfl, rfl⟩ := h <;> exact ⟨rfl, by decide⟩

/-- Settles O34: the rule of each code only emits its unit (`c1Rule_noPayload`). -/
theorem c1WithoutPayload : Obligations.C1WithoutPayload := by
  intro s i p ins b hat hout hins hc hr
  obtain ⟨hexec, hformat, hrange⟩ := exec_c1WithoutPayload hins s
  exact hexec.trans (code_of_c1Emit hc hr hformat hat hout fun _ => c1Rule_noPayload hrange)

/-- The meaning of a window-bitmap command is its code and its bitmap (R275 to R279). -/
theorem exec_bitmapCommand {p1 : Byte}
    (h : (ins, b) ∈ [(Instr.clw p1, 0x88#8), (.dsw p1, 0x89#8), (.hdw p1, 0x8A#8), (.tgw p1, 0x8B#8),
      (.dlw p1, 0x8C#8)]) (s : State) :
    exec ins s = code [b, p1] s ∧ C1Format b 2 ∧ 0x88 ≤ b.toNat ∧ b.toNat ≤ 0x8C := by
  simp only [List.mem_cons, Prod.mk.injEq, List.not_mem_nil, or_false] at h
  obtain ⟨rfl, rfl⟩ | ⟨rfl, rfl⟩ | ⟨rfl, rfl⟩ | ⟨rfl, rfl⟩ | ⟨rfl, rfl⟩ := h <;> exact ⟨rfl, by decide⟩

/-- Settles O35: the rule of each code only emits its unit (`c1Rule_bitmap`, `c1Rule_delay`). -/
theorem bitmapCommandsAndDelay : Obligations.BitmapCommandsAndDelay := by
  intro s i p p1 hc hat hout
  refine ⟨fun ins b hins hr => ?bitmap, fun hr => ?delay⟩
  case bitmap =>
    obtain ⟨hexec, hformat, hrange⟩ := exec_bitmapCommand hins s
    exact hexec.trans (code_of_c1Emit hc hr hformat hat hout fun _ => c1Rule_bitmap hrange p1)
  case delay => exact code_of_c1Emit hc hr (by decide : C1Format 0x8D 2) hat hout fun _ => c1Rule_delay p1

/-- Settles O36: the rule of each code only emits its unit (`c1Rule_penAttributes`, `c1Rule_penColor`,
`c1Rule_penLocation`), whose fields are the stated bit ranges by the definition of `field`. -/
theorem penCommands : Obligations.PenCommands := by
  intro s i p p1 p2 p3 hc hout
  refine ⟨fun hr hat => ?spa, fun hr hat => ?spc, fun hr hat => ?spl⟩
  case spa => exact code_of_c1Emit hc hr (by decide : C1Format 0x90 3) hat hout fun _ => c1Rule_penAttributes p1 p2
  case spc => exact code_of_c1Emit hc hr (by decide : C1Format 0x91 4) hat hout fun _ => c1Rule_penColor p1 p2 p3
  case spl => exact code_of_c1Emit hc hr (by decide : C1Format 0x92 3) hat hout fun _ => c1Rule_penLocation p1 p2

/-- Settles O37: the rule only emits the unit (`c1Rule_windowAttributes`), whose fields are the stated bit ranges by the
definition of `field`. -/
theorem setWindowAttributes : Obligations.SetWindowAttributes := by
  intro s i p p1 p2 p3 p4 hc hr hat hout
  exact code_of_c1Emit hc hr (by decide : C1Format 0x97 5) hat hout fun _ => c1Rule_windowAttributes p1 p2 p3 p4

/-- The meaning of a DefineWindow is its code and its six payload bytes (R287). -/
theorem exec_defineWindow {p1 p2 p3 p4 p5 p6 : Byte}
    (h : (ins, b) ∈ [(Instr.df0 p1 p2 p3 p4 p5 p6, 0x98#8), (.df1 p1 p2 p3 p4 p5 p6, 0x99#8),
      (.df2 p1 p2 p3 p4 p5 p6, 0x9A#8), (.df3 p1 p2 p3 p4 p5 p6, 0x9B#8), (.df4 p1 p2 p3 p4 p5 p6, 0x9C#8),
      (.df5 p1 p2 p3 p4 p5 p6, 0x9D#8), (.df6 p1 p2 p3 p4 p5 p6, 0x9E#8), (.df7 p1 p2 p3 p4 p5 p6, 0x9F#8)])
    (s : State) :
    exec ins s = code [b, p1, p2, p3, p4, p5, p6] s ∧ C1Format b 7 ∧ 0x98 ≤ b.toNat := by
  simp only [List.mem_cons, Prod.mk.injEq, List.not_mem_nil, or_false] at h
  obtain ⟨rfl, rfl⟩ | ⟨rfl, rfl⟩ | ⟨rfl, rfl⟩ | ⟨rfl, rfl⟩ | ⟨rfl, rfl⟩ | ⟨rfl, rfl⟩ | ⟨rfl, rfl⟩ | ⟨rfl, rfl⟩ :=
    h <;> exact ⟨rfl, by decide⟩

/-- Settles O38: the rule emits the unit and calls the classifier (`c1Rule_defineWindow`), which commutes with the
completion of the code (`complete_classify`). -/
theorem defineWindow : Obligations.DefineWindow := by
  intro s i p p1 p2 p3 p4 p5 p6 ins b hc hr hat hout hins
  obtain ⟨hexec, hformat, hrange⟩ := exec_defineWindow hins s
  exact hexec.trans
    (code_of_c1EmitClassify hc hr hformat hat hout fun _ => c1Rule_defineWindow hrange p1 p2 p3 p4 p5 p6)

end Sys2Proof.Machine
end

section
/-! How the extended codes come out: EXT1 and the code byte, the extra bytes that are discarded, and the ending of each
row (46_extended_codes.md R310 to R323). -/

namespace Sys2Proof.Machine

-- One proof at a time: in parallel they need more threads than the memory limit allows.
set_option Elab.async false

variable {s : State} {e tag : Byte} {i n len : Nat} {p : Slot} {body : Body} {phase : ExtPhase} {left : PayloadCount}
  {extra : List Byte}

/-! ### The rows of the code byte -/

theorem c2Extra_none (h : e.toNat ≤ 0x07) : c2Extra e = 0 := if_pos h

theorem c2Extra_one (h : 0x08 ≤ e.toNat ∧ e.toNat ≤ 0x0F) : c2Extra e = 1 := by
  rw [c2Extra, if_neg (by omega), if_pos h.2]

theorem c2Extra_two (h : 0x10 ≤ e.toNat ∧ e.toNat ≤ 0x17) : c2Extra e = 2 := by
  rw [c2Extra, if_neg (by omega), if_neg (by omega), if_pos h.2]

theorem c2Extra_three (h : 0x18 ≤ e.toNat) : c2Extra e = 3 := by
  rw [c2Extra, if_neg (by omega), if_neg (by omega), if_neg (by omega)]

theorem c3Extra_four (h : e.toNat ≤ 0x87) : c3Extra e = 4 := if_pos h

theorem c3Extra_five (h : 0x88 ≤ e.toNat) : c3Extra e = 5 := if_neg (by omega)

theorem extCodeByte_g2Char (s : State) (he : 0x20 ≤ e.toNat ∧ e.toNat ≤ 0x7F) : extCodeByte e s = g2Char e s := by
  unfold extCodeByte
  rw [if_neg (by omega), if_pos he.2]

theorem extCodeByte_g3Char (s : State) (he : 0xA0 ≤ e.toNat) : extCodeByte e s = g3Char e s := by
  unfold extCodeByte
  rw [if_neg (by omega), if_neg (by omega), if_neg (by omega), if_neg (by omega)]

/-- A code of C2 without extra bytes ends with its code byte (R312). -/
theorem extCodeByte_of_no_extra (s : State) (he : e.toNat ≤ 0x1F) (hextra : c2Extra e = 0) :
    extCodeByte e s = c2Complete { s with cmd := e, remaining := 0 } := by
  unfold extCodeByte
  dsimp only
  rw [if_pos he, hextra]
  rfl

/-- A partial ROM table is read by its first entry for the code (R316, R321). -/
theorem sparseGlyph_eq_lookup (table : List (Byte × Glyph)) (e : Byte) :
    sparseGlyph table e = (table.lookup e).getD .unknownGlyph := by
  induction table with
  | nil => rfl
  | cons entry table ih =>
    obtain ⟨b, glyph⟩ := entry
    by_cases hb : b = e
    · simp [sparseGlyph, hb]
    · have hne : (e == b) = false := beq_eq_false_iff_ne.2 (Ne.symm hb)
      rw [List.lookup_cons, hne, ← ih]
      simp [sparseGlyph, hb]

/-! ### The bytes of an extended code -/

/-- An extended code is pending behind `n` of its bytes: its tag, its phase and the bytes left (R223, R311). -/
def State.extended (n : Nat) (tag : Byte) (phase : ExtPhase) (left : PayloadCount) (s : State) : State :=
  { s.consumed n with mode := .extendedPending, cmd := tag, extPhase := phase, remaining := left }

theorem complete_extended : complete (s.extended n tag phase left) = s.afterCode n tag [] := by
  rw [State.afterCode, accWith_nil]
  rfl

/-- EXT1 and the code byte (R223, R311). -/
theorem feed_ext1 (e : Byte) (hf : s.fatal = false) (hm : s.mode = .dataWait) :
    feed [0x10, e] s = extCodeByte e (s.extended 2 0x10 .code 1) := by
  rw [feed_cons_of_live hf, feed_cons_of_live ((consume_ext1 hm).1.fatal.trans hf), feed_nil,
    consume_dataWait 0x10 hm, dataWaitByte_ext1, consume_extCode e rfl rfl, State.extended, ← consumed_consumed 1 1]
  rfl

theorem feed_append (bytes rest : List Byte) (s : State) : feed (bytes ++ rest) s = feed rest (feed bytes s) := by
  induction bytes generalizing s with
  | nil => rfl
  | cons b bytes ih =>
    cases hf : s.fatal with
    | true => rw [feed_of_halted hf, feed_of_halted hf, feed_of_halted hf]
    | false => rw [List.cons_append, feed_cons_of_live hf, feed_cons_of_live hf, ih]

/-- What the last byte of a code of C2 or C3 runs (R311). -/
def State.unsupportedEnd (s : State) : State := if s.cmd.toNat ≤ 0x1F then c2Complete s else c3Complete s

/-- The last extra byte is discarded too, and ends the code (R311). -/
theorem consume_last_skipping (x : Byte) (s : State) :
    consume x (s.skipping e (n + 1) n) = (s.extended (n + 3) e .skip 0).unsupportedEnd := by
  have hleft : payloadCount ((payloadCount (n + 1 - n)).val - 1) = 0 := by
    rw [Nat.add_sub_cancel_left]
    rfl
  have hcount : countDown ((s.skipping e (n + 1) n).consumed 1) = s.extended (n + 3) e .skip 0 := by
    conv_rhs => rw [State.extended, ← hleft, ← consumed_consumed (n + 2) 1]
    rfl
  change extSkipByte ((s.skipping e (n + 1) n).consumed 1) = _
  rw [extSkipByte, hcount]
  rfl

/-- The bytes of a code of C2 or C3 that has a known length carry it to its ending; the extra bytes leave no trace
(R311). -/
theorem feed_unsupported (hf : s.fatal = false) (hm : s.mode = .dataWait)
    (he : e.toNat ≤ 0x1F ∧ c2Extra e = extra.length ∨
      (0x80 ≤ e.toNat ∧ e.toNat ≤ 0x8F) ∧ c3Extra e = extra.length) :
    ∃ phase, feed (0x10 :: e :: extra) s = (s.extended (extra.length + 2) e phase 0).unsupportedEnd := by
  have hlen : totalLenExtended e = extra.length + 2 := by
    obtain ⟨hrange, hextra⟩ | ⟨hrange, hextra⟩ := he
    · rw [totalLenExtended_c2 hrange, hextra, Nat.add_comm]
    · rw [totalLenExtended_c3 hrange, hextra, Nat.add_comm]
  have hle : extra.length ≤ 6 := by
    have hc2 := c2Extra_le e
    have hc3 := (c3Extra_bounds e).2
    omega
  obtain rfl | ⟨init, last, rfl⟩ := extra.eq_nil_or_concat'
  · obtain ⟨hrange, hextra⟩ | ⟨-, hextra⟩ := he
    · refine ⟨.code, ?_⟩
      rw [feed_ext1 e hf hm, extCodeByte_of_no_extra _ hrange hextra, State.unsupportedEnd]
      exact (if_pos (by exact hrange)).symm
    · exact absurd hextra (c3Extra_bounds e).1
  · rw [List.length_append, List.length_singleton] at hlen hle
    refine ⟨.skip, ?_⟩
    rw [List.length_append, List.length_singleton, ← List.cons_append, ← List.cons_append, feed_append,
      feed_extendedCode hf hm hlen hle (Nat.lt_succ_self _), feed_cons_of_live (by exact hf), feed_nil,
      consume_last_skipping]

/-! ### The unit of an extended code -/

/-- The unit of an extended code finds the room that its first byte found. -/
theorem emit_extended (hout : s.OutSlot i p) (body : Body) :
    emit body (s.extended n tag phase left) = (s.extended n tag phase left).withUnit i p body :=
  emit_of_outSlot (s := s.extended n tag phase left) hout body

theorem complete_withUnit_extended :
    complete ((s.extended n tag phase left).withUnit i p body) = (s.afterCode n tag []).withUnit i p body := by
  rw [← complete_extended (phase := phase) (left := left)]
  rfl

/-- The ending of a code that only emits its unit (R316, R321). -/
theorem emit_complete_extended (hf : s.fatal = false) (hout : s.OutSlot i p) (body : Body) :
    (emit body (s.extended n tag phase left)).andThen complete = (s.afterCode n tag []).withUnit i p body := by
  rw [emit_extended hout, andThen_of_live (by exact hf), complete_withUnit_extended]

/-- The ending of a code that emits its unit and raises its event (R311). -/
theorem emit_raise_complete_extended (hf : s.fatal = false) (hout : s.OutSlot i p) (body : Body) (ev : Event) :
    ((emit body (s.extended n tag phase left)).andThen (raise ev)).andThen complete =
      raise ev ((s.afterCode n tag []).withUnit i p body) := by
  rw [emit_extended hout, andThen_of_live (s := (s.extended n tag phase left).withUnit i p _) hf,
    andThen_of_live (by exact hf), ← complete_withUnit_extended (phase := phase) (left := left)]
  rfl

/-- A code of C2 that lies in its block (R312 to R315). -/
theorem code_of_c2 (he : e.toNat ≤ 0x1F) (hextra : c2Extra e = extra.length) (hat : s.AtCode (extra.length + 2))
    (hout : s.OutSlot i p) :
    code (0x10 :: e :: extra) s = .next
      (raise (.unsupportedC2 e) ((s.afterCode (extra.length + 2) e []).withUnit i p (.c2 e extra.length))) := by
  obtain ⟨hf, hm, hfits⟩ := hat
  obtain ⟨phase, hfeed⟩ := feed_unsupported hf hm (.inl ⟨he, hextra⟩)
  have hend : (s.extended (extra.length + 2) e phase 0).unsupportedEnd = c2Complete (s.extended _ e phase 0) :=
    if_pos he
  refine code_of_fits (code := 0x10 :: e :: extra) hf hfits (hfeed.trans (hend.trans ?_)) rfl
  rw [← hextra]
  exact emit_raise_complete_extended hf hout _ _

/-- A code of C3 of a known length that lies in its block (R318, R319). -/
theorem code_of_c3 (he : 0x80 ≤ e.toNat ∧ e.toNat ≤ 0x8F) (hextra : c3Extra e = extra.length)
    (hat : s.AtCode (extra.length + 2)) (hout : s.OutSlot i p) :
    code (0x10 :: e :: extra) s = .next
      (raise (.unsupportedC3 e) ((s.afterCode (extra.length + 2) e []).withUnit i p (.c3 e extra.length))) := by
  obtain ⟨hf, hm, hfits⟩ := hat
  obtain ⟨phase, hfeed⟩ := feed_unsupported hf hm (.inr ⟨he, hextra⟩)
  have hend : (s.extended (extra.length + 2) e phase 0).unsupportedEnd = c3Complete (s.extended _ e phase 0) :=
    if_neg (show ¬ e.toNat ≤ 0x1F by omega)
  refine code_of_fits (code := 0x10 :: e :: extra) hf hfits (hfeed.trans (hend.trans ?_)) rfl
  rw [← hextra]
  exact emit_raise_complete_extended hf hout _ _

/-- A character of G2 or G3 that lies in its block (R316, R321). -/
theorem code_of_extendedChar (hat : s.AtCode 2) (hout : s.OutSlot i p)
    (hchar : extCodeByte e (s.extended 2 0x10 .code 1) =
      (emit body (s.extended 2 0x10 .code 1)).andThen complete) :
    code [0x10, e] s = .next ((s.afterCode 2 0x10 []).withUnit i p body) := by
  obtain ⟨hf, hm, hfits⟩ := hat
  refine code_of_fits (code := [0x10, e]) hf hfits ?_ rfl
  rw [feed_ext1 e hf hm, hchar, emit_complete_extended hf hout]

/-! ### A code that skips the rest of its block -/

/-- The ending of a variable-length code of C3: nothing of the block is left (R320). -/
theorem c3Abandon_extended (h : s.rd.val + n ≤ s.sbEnd.val) :
    c3Abandon e (s.extended n tag phase left) =
      raise (.c3VarlenAbandon e (s.sbEnd.val - (s.rd.val + n))) { s.afterCode n tag [] with rd := s.sbEnd } := by
  have hrd : (s.extended n tag phase left).rd.val = s.rd.val + n := cursor_val_of_le (by omega)
  rw [c3Abandon, hrd, ← complete_extended (phase := phase) (left := left)]
  rfl

end Sys2Proof.Machine
end

section
/-! The statements of 46_extended_codes.md. -/

namespace Sys2Proof.Machine

-- One proof at a time: in parallel they need more threads than the memory limit allows.
set_option Elab.async false

/-- Settles O40: the length tables give each sub-range its number of extra bytes, and a code with that many of them
comes to its ending (`code_of_c2`, `code_of_c3`). -/
theorem unsupportedExtendedCodes : Obligations.UnsupportedExtendedCodes := by
  intro s i p e x1 x2 x3 x4 x5 hout
  refine ⟨fun hhi hat => ?c20, fun hlo hhi hat => ?c21, fun hlo hhi hat => ?c22, fun hlo hhi hat => ?c23,
    fun hlo hhi hat => ?c34, fun hlo hhi hat => ?c35⟩
  case c20 => exact code_of_c2 (extra := []) (by omega) (c2Extra_none hhi) hat hout
  case c21 => exact code_of_c2 (extra := [x1]) (by omega) (c2Extra_one ⟨hlo, hhi⟩) hat hout
  case c22 => exact code_of_c2 (extra := [x1, x2]) (by omega) (c2Extra_two ⟨hlo, hhi⟩) hat hout
  case c23 => exact code_of_c2 (extra := [x1, x2, x3]) hhi (c2Extra_three hlo) hat hout
  case c34 => exact code_of_c3 (extra := [x1, x2, x3, x4]) ⟨hlo, by omega⟩ (c3Extra_four hhi) hat hout
  case c35 => exact code_of_c3 (extra := [x1, x2, x3, x4, x5]) ⟨by omega, hhi⟩ (c3Extra_five hlo) hat hout

/-- Settles O41: the code byte runs `c3Abandon`, whose count of bytes thrown away is taken behind both bytes of the code
and is 0 where they are the last of the block (`c3Abandon_extended`). -/
theorem variableLengthC3AbandonsBlock : Obligations.VariableLengthC3AbandonsBlock := by
  intro s e ⟨hf, hm, hfits⟩ hlo hhi
  refine code_of_fits (code := [0x10, e]) hf hfits ?_ rfl
  rw [feed_ext1 e hf hm, extCodeByte_c3Abandon _ ⟨hlo, hhi⟩, c3Abandon_extended hfits]

/-- Settles O42: the code byte emits one unit (`code_of_extendedChar`), whose glyph is the entry of the partial table or
the unknown glyph (`sparseGlyph_eq_lookup`). -/
theorem extendedCharacters : Obligations.ExtendedCharacters := by
  intro s i p e hat hout
  rw [← sparseGlyph_eq_lookup, ← sparseGlyph_eq_lookup]
  refine ⟨fun hlo hhi => ?g2, fun hlo => ?g3⟩
  case g2 => exact code_of_extendedChar hat hout (extCodeByte_g2Char _ ⟨hlo, hhi⟩)
  case g3 => exact code_of_extendedChar hat hout (extCodeByte_g3Char _ hlo)

end Sys2Proof.Machine
end

section
/-! No packet is fatal on its own (60_exceptions.md R371, 42_service_block_parser.md R199, 70_reset_and_hazards.md
R414): with a free slot and no sink a service block runs to its end and gives its buffer back, and every other line of
a Flush leaves alone what a block needs. -/

namespace Sys2Proof.Machine

-- One proof at a time: in parallel they need more threads than the memory limit allows.
set_option Elab.async false

variable {s t d : State} {i k n : Nat} {units : List Element}

/-! ### What a service block needs -/

/-- What a service block needs to run to its end is read from here, and what the statement asks to be as before. -/
structure Readiness where
  fatal : Bool
  mode : Mode
  remaining : PayloadCount
  accN : PayloadCount
  extPhase : ExtPhase
  cfg : Params
  sinks : List SinkEntry
  sinkCalls : List SinkCall
  inUse : List Bool

/-- The readiness of a state. -/
def State.readiness (s : State) : Readiness :=
  ⟨s.fatal, s.mode, s.remaining, s.accN, s.extPhase, s.cfg, s.sinks, s.sinkCalls, s.pool.map Slot.inUse⟩

/-- The decoder is idle in a live machine under admissible parameters, with a free slot and no sink. -/
structure State.Ready (s : State) : Prop where
  live : s.fatal = false
  idle : s.decoderIdle
  admissible : s.codesAdmissible
  noSinks : s.sinks = []
  free : ∃ p ∈ s.pool, p.inUse = false

theorem readiness_sinkCalls (h : t.readiness = s.readiness) : t.sinkCalls = s.sinkCalls :=
  (congrArg Readiness.sinkCalls h :)

theorem readiness_inUse (h : t.readiness = s.readiness) : t.pool.map Slot.inUse = s.pool.map Slot.inUse :=
  (congrArg Readiness.inUse h :)

theorem State.Ready.of_readiness (hs : s.Ready) (h : t.readiness = s.readiness) : t.Ready where
  live := (congrArg Readiness.fatal h :).trans hs.live
  idle := by
    obtain ⟨hmode, hremaining, haccN, hphase⟩ := hs.idle
    exact ⟨(congrArg Readiness.mode h :).trans hmode, (congrArg Readiness.remaining h :).trans hremaining,
      (congrArg Readiness.accN h :).trans haccN, (congrArg Readiness.extPhase h :).trans hphase⟩
  admissible := by
    have hcfg : t.cfg = s.cfg := (congrArg Readiness.cfg h :)
    have hadm := hs.admissible
    unfold State.codesAdmissible
    rwa [hcfg]
  noSinks := (congrArg Readiness.sinks h :).trans hs.noSinks
  free := by
    have hmem : false ∈ s.pool.map Slot.inUse := List.mem_map.2 hs.free
    rw [← readiness_inUse h] at hmem
    exact List.mem_map.1 hmem

/-- A state that is as ready as it gets is told by its parts: what the decoder ends with, and the pool. -/
theorem State.Ready.readiness_eq (hs : s.Ready) (hlive : t.fatal = false) (hidle : t.decoderIdle)
    (hcfg : t.cfg = s.cfg) (hsinks : t.sinks = s.sinks) (hcalls : t.sinkCalls = s.sinkCalls)
    (huse : t.pool.map Slot.inUse = s.pool.map Slot.inUse) : t.readiness = s.readiness := by
  obtain ⟨hmode, hremaining, haccN, hphase⟩ := hs.idle
  obtain ⟨hmode', hremaining', haccN', hphase'⟩ := hidle
  simp only [State.readiness, hlive, hs.live, hmode, hmode', hremaining, hremaining', haccN, haccN', hphase, hphase',
    hcfg, hsinks, hcalls, huse]

/-! ### A service block -/

/-- A free slot that is free again is as it was. -/
theorem map_inUse_set_of_free {pool : List Slot} {p q : Slot} (hq : pool[i]? = some q) (hqfree : q.inUse = false)
    (hp : p.inUse = false) : (pool.set i p).map Slot.inUse = pool.map Slot.inUse := by
  obtain ⟨hlt, rfl⟩ := List.getElem?_eq_some_iff.1 hq
  rw [List.map_set, hp, ← hqfree, ← List.getElem_map Slot.inUse (h := by simpa using hlt), List.set_getElem_self]

/-- The count check finds what was decoded (R199). -/
theorem DecodedInto.counted (h : DecodedInto i n units s d) : unitsEmitted d = d.expectN := by
  rw [unitsEmitted_eq_length, units_of_out h.out h.slot.getSlot, h.expected, ← h.length]
  rfl

/-- Without a sink the buffer of a block is released by its producer, the only reader (R200 (b)). -/
theorem DecodedInto.closeBlock_of_no_sinks (h : DecodedInto i n units s d) (hsinks : d.sinks = []) :
    Machine.closeBlock d =
      { raise .noSinks d with
        pool := s.pool.set i { s.blockBuffer n units with readers := 0, inUse := false }
        ok := d.ok && false, out := none, phase := .parse } := by
  have hdeliver := deliver_of_dispatch (t := raise .noSinks d) h.out (dispatch_of_no_sinks h.slot hsinks) h.out h.slot
    le_rfl
  rw [closeBlock_of_counted h.slot.notHalted h.counted, if_neg (by simp [h.out]), hdeliver,
    andThen_of_live (by exact h.slot.notHalted)]
  simp only [setSlot, raise_pool, h.others]
  rfl

/-- A service block inside the packet runs to its end, and the slots in use are as before (R199, R371). -/
theorem processBlock_readiness (hs : s.Ready) (hrd : s.rd.val ≤ s.sbEnd.val) :
    (processBlock s).readiness = s.readiness := by
  have hcfg : (processBlock s).cfg = s.cfg := (processBlock_steps s).evolves.grows.params
  have hsinks : (processBlock s).sinks = s.sinks := (congrArg CallRegisters.sinks (processBlock_callRegisters s) :)
  obtain hzero | hpos := (preCount s s.rd.val s.sbEnd.val).eq_zero_or_pos
  · obtain ⟨t, hexec, hlive, hidle, -, -, hpool, -, -, -, hcalls, -, -⟩ :=
      blockWithoutUnits s hs.live hs.idle hs.admissible hrd hzero
    obtain ⟨-, rfl⟩ := live_eq_next.1 hexec
    exact hs.readiness_eq hlive hidle hcfg hsinks hcalls (by rw [hpool])
  · obtain ⟨i, units, hopen, hinto⟩ :=
      decodedInto_of_openBlock ⟨hs.live, hs.idle, hs.admissible, hrd⟩ rfl hpos hs.free
    obtain ⟨hdsinks, -, hcalls, -⟩ := downstream_iff.1 hinto.downstream
    obtain ⟨q, hq, hqfree⟩ := hinto.free
    have hprocess := (processBlock_of_live hopen hinto.slot.notHalted).trans
      (hinto.closeBlock_of_no_sinks (hdsinks.trans hs.noSinks))
    refine hs.readiness_eq ?_ ?_ hcfg hsinks ?_ ?_ <;> rw [hprocess]
    · exact hinto.slot.notHalted
    · exact hinto.idle
    · exact hcalls
    · exact map_inUse_set_of_free hq hqfree rfl

/-- So does the block behind a header of `k` bytes, clamped to the packet (R190, R196). -/
theorem processBlock_atBlock_readiness (hs : s.Ready) (svc : BitVec 6) (size : BitVec 5) :
    (processBlock (s.atBlock k svc size)).readiness = s.readiness := by
  have hat : (s.atBlock k svc size).readiness = s.readiness := by
    unfold State.atBlock
    dsimp only
    split <;> rfl
  refine (processBlock_readiness (hs.of_readiness hat) ?_).trans hat
  simp only [State.atBlock, cursor_val]
  omega

/-! ### The block loop -/

theorem parseStep_readiness (hs : s.Ready) : (parseStep s).readiness = s.readiness := by
  unfold parseStep
  dsimp only
  split; · rfl
  split; · rfl
  split
  · by_cases hsvc : extService (pktByte s (s.rd.val + 1)) = 0
    · rw [hsvc]
      rfl
    · rw [sbExt_of_service _ hsvc (by omega)]
      split
      · exact processBlock_atBlock_readiness (s := raise (.extSvcIllegal _) s) (hs.of_readiness rfl) _ _
      · exact processBlock_atBlock_readiness hs _ _
  split; · rfl
  · rw [sbStd, takeBlock_advance _ _ (by omega)]
    exact processBlock_atBlock_readiness hs _ _

theorem parseLoop_readiness (fuel : Nat) (hs : s.Ready) : (parseLoop fuel s).readiness = s.readiness := by
  induction fuel generalizing s with
  | zero => exact andThen_induct (P := fun u => u.readiness = s.readiness) rfl fun _ h => h
  | succ fuel ih =>
    unfold parseLoop
    split; · rfl
    split
    · exact (ih (hs.of_readiness (parseStep_readiness hs))).trans (parseStep_readiness hs)
    · rfl

/-- With no less fuel than bytes the block loop stops, by its own rule or halted (R190, R191). -/
theorem parseLoop_stopped {fuel : Nat} (h : s.ParsesWithin fuel) :
    (parseLoop fuel s).fatal = true ∨ (parseLoop fuel s).phase = .parsed := by
  induction fuel generalizing s with
  | zero =>
    obtain hstopped | ⟨hf, -, -⟩ := h
    · rwa [parseLoop_of_stopped 0 hstopped]
    · rw [parseLoop, andThen_of_live hf]
      exact .inr rfl
  | succ fuel ih =>
    obtain hstopped | ⟨hf, hp, hleft⟩ := h
    · rwa [parseLoop_of_stopped _ hstopped]
    · rw [parseLoop_succ_of_parse fuel hf hp]
      exact ih ((parseStep_parsesWithin s).mono (by omega))

theorem parseBlocks_readiness (hs : s.Ready) : (parseBlocks s).readiness = s.readiness :=
  parseLoop_readiness (s := enterParse s) _ (hs.of_readiness rfl)

theorem parseBlocks_phase (hs : s.Ready) : (parseBlocks s).phase = .parsed := by
  have hlive : (parseBlocks s).fatal = false := (hs.of_readiness (parseBlocks_readiness hs)).live
  have hstart : (enterParse s).ParsesWithin s.pktLen.val := .inr ⟨hs.live, rfl, Nat.sub_le _ _⟩
  exact (parseLoop_stopped hstart).resolve_left fun hhalt => absurd (hlive.symm.trans hhalt) Bool.false_ne_true

/-! ### The Flush -/

theorem packetHeader_readiness (seq : BitVec 2) (code : BitVec 6) (s : State) :
    (packetHeader seq code s).readiness = s.readiness := by
  have hseq (u : State) : (seqCheck seq u).readiness = u.readiness := by
    rw [seqCheck_eq]
    split <;> rfl
  unfold packetHeader lengthCheck
  split <;> exact hseq _

theorem flush_readiness (hs : s.Ready) : (flush s).readiness = s.readiness := by
  by_cases h : s.pktLen.val = 0
  · rw [flush_of_empty h]
    unfold State.afterEmptyFlush
    split <;> rfl
  · have hheader : (packetHeader (field (pktByte s 0) 6 2) (field (pktByte s 0) 0 6)
        { s with phase := .header }).readiness = s.readiness := packetHeader_readiness ..
    rw [flush_of_packet h]
    exact andThen_induct (P := fun u => u.readiness = s.readiness)
      ((parseBlocks_readiness (hs.of_readiness hheader)).trans hheader) fun _ h => h

theorem flush_firstFlushDone (hf : (flush s).fatal = false) : (flush s).firstFlushDone = true := by
  by_cases h : s.pktLen.val = 0
  · rw [flush_of_empty h]
    rfl
  · rw [flush_of_packet h] at hf ⊢
    obtain ⟨-, heq⟩ := andThen_live hf
    rw [heq]
    rfl

/-- Settles O29: every line of a Flush keeps the readiness that a service block needs (`flush_readiness`,
`parseBlocks_readiness`), a halt would show in it, and the block loop stops (`parseLoop_stopped`). -/
theorem noPacketIsFatal : Obligations.NoPacketIsFatal := by
  intro s b0 b1 hf hidle hadm hsinks hfree
  have hs : s.Ready := ⟨hf, hidle, hadm, hsinks, hfree⟩
  have hflushed := flush_readiness hs
  have hready : (flush s).Ready := hs.of_readiness hflushed
  have hlen : (flush s).pktLen = 0 := flush_pktLen hready.live
  have hdone := flush_firstFlushDone hready.live
  have hcalls := readiness_sinkCalls hflushed
  have huse := readiness_inUse hflushed
  refine ⟨⟨flush s, live_of_live hf, ?flush⟩, ⟨appendPair b0 b1 (flush s), ?psExec, ?ps⟩,
    ⟨flush s, live_of_live hf, ?psInvalid⟩, ⟨parseBlocks s, live_of_live hf, ?parse⟩⟩
  case flush | psInvalid => exact ⟨hready.live, by rw [hlen]; rfl, hdone, hready.idle, hcalls, huse⟩
  case psExec => exact (live_of_live hf).trans (congrArg _ (andThen_of_live hready.live _))
  case ps =>
    exact ⟨hready.live, by rw [appendPair_pktLen, hlen]; rfl, hdone, hready.idle, hcalls, huse⟩
  case parse =>
    have hparsed := parseBlocks_readiness hs
    have hend : (parseBlocks s).Ready := hs.of_readiness hparsed
    exact ⟨hend.live, parseBlocks_phase hs, hend.idle, readiness_sinkCalls hparsed, readiness_inUse hparsed⟩

end Sys2Proof.Machine
end

section
/-! Non-interference of the classifier (47_style_classifier.md R343): the style registers, the counters, the diagnostic
stream and `STYLE_CLASS` are only read to write them again. Every operation is blind to them: on states that differ
only there it answers states that differ only there, and the same result. -/

namespace Sys2Proof.Machine

-- One proof at a time: in parallel they need more threads than the memory limit allows.
set_option Elab.async false

variable {s s' t t' : State} {α : Type}

/-! ### States that differ only in the diagnosis -/

/-- What the statement leaves out of a state. -/
structure Diagnosis where
  style : Vector Style 63
  ambiguous : Vector Bool 63
  cnt : Vector Nat 17
  occurred : Vector Nat 17
  diag : List DiagRecord
  styleClass : List Style

/-- The diagnosis of a state. -/
def State.diagnosis (s : State) : Diagnosis :=
  ⟨s.style, s.ambiguous, s.cnt, s.occurred, s.diag, s.cfg.styleClass⟩

/-- The state with another diagnosis. -/
def State.diagnosedAs (s : State) (d : Diagnosis) : State :=
  { s with
    style := d.style, ambiguous := d.ambiguous, cnt := d.cnt, occurred := d.occurred, diag := d.diag
    cfg := { s.cfg with styleClass := d.styleClass } }

/-- The two states differ at most in their diagnosis. -/
abbrev Agree (s s' : State) : Prop := s.withoutDiagnosis = s'.withoutDiagnosis

/-- So the one is the other with a diagnosis of its own. -/
theorem Agree.eq_diagnosedAs (h : Agree s s') : s' = s.diagnosedAs s'.diagnosis :=
  (congrArg (State.diagnosedAs · s'.diagnosis) h).symm

theorem Agree.fatal (h : Agree s s') : s'.fatal = s.fatal := (congrArg State.fatal h).symm

/-- An effect that is blind to the diagnosis: it carries no difference there to anything else. -/
def Blind (f : State → State) : Prop := ∀ s d, Agree (f s) (f (s.diagnosedAs d))

/-- An operation with a result that is blind to the diagnosis. -/
def BlindCall (f : State → α × State) : Prop :=
  ∀ s d, (f (s.diagnosedAs d)).1 = (f s).1 ∧ Agree (f s).2 (f (s.diagnosedAs d)).2

theorem Blind.agree {f : State → State} (hf : Blind f) (h : Agree s s') : Agree (f s) (f s') := by
  rw [h.eq_diagnosedAs]
  exact hf s _

theorem BlindCall.agree {f : State → α × State} (hf : BlindCall f) (h : Agree s s') :
    (f s').1 = (f s).1 ∧ Agree (f s).2 (f s').2 := by
  rw [h.eq_diagnosedAs]
  exact hf s _

theorem blind_id : Blind id := fun _ _ => rfl

theorem Blind.comp {f g : State → State} (hg : Blind g) (hf : Blind f) : Blind fun s => g (f s) :=
  fun s d => hg.agree (hf s d)

/-- What is done with the result of a blind operation is blind too. -/
theorem BlindCall.bind {f : State → α × State} (g : α → State → State) (hf : BlindCall f) (hg : ∀ a, Blind (g a)) :
    Blind fun s => g (f s).1 (f s).2 := fun s d => by
  obtain ⟨hresult, hstate⟩ := hf s d
  dsimp only
  rw [hresult]
  exact (hg _).agree hstate

/-- A test that reads nothing of the diagnosis. -/
theorem agree_ite {c : Prop} [Decidable c] (ht : c → Agree s s') (he : ¬ c → Agree t t') :
    Agree (if c then s else t) (if c then s' else t') := by
  split
  · next h => exact ht h
  · next h => exact he h

/-- The next line of a rule. -/
theorem Agree.andThen {f : State → State} (h : Agree s s') (hf : Blind f) : Agree (s.andThen f) (s'.andThen f) := by
  unfold State.andThen
  rw [h.fatal]
  exact agree_ite (fun _ => h) fun _ => hf.agree h

theorem Blind.andThen {f g : State → State} (hf : Blind f) (hg : Blind g) : Blind fun s => (f s).andThen g :=
  fun s d => (hf s d).andThen hg

/-! ### The events and the classifier write only the diagnosis -/

theorem raise_agree (e : Event) (s : State) : Agree (raise e s) s := rfl

theorem raise_blind (e : Event) : Blind (raise e) := fun _ _ => rfl

theorem raiseFatal_blind (c : FatalCause) : Blind (raiseFatal c) := fun _ _ => rfl

theorem setStyle_agree (svc : BitVec 6) (c : Style) (s : State) : Agree (setStyle svc c s) s := rfl

theorem setAmbiguous_agree (svc : BitVec 6) (s : State) : Agree (setAmbiguous svc s) s := rfl

/-- "The sequence of units DTVCC-FD emits, their content, the buffers it allocates and the results it returns are the
same whatever the classifier state" (R343). -/
theorem classify_agree (svc : BitVec 6) (ws : BitVec 3) (s : State) : Agree (classify svc ws s) s := by
  unfold classify
  dsimp only
  split; · exact rfl
  split; · exact setStyle_agree svc _ s
  split
  · exact (setStyle_agree svc _ _).trans ((raise_agree _ _).trans (setAmbiguous_agree svc s))
  · exact rfl

theorem classify_blind (svc : BitVec 6) (ws : BitVec 3) : Blind (classify svc ws) := fun s d =>
  (classify_agree svc ws s).trans (classify_agree svc ws (s.diagnosedAs d)).symm

/-! ### The substrate -/

theorem setSlot_blind (i : Nat) (p : Slot) : Blind (setSlot i p) := fun _ _ => rfl

theorem withSlot_blind (h : Handle) {f : Nat → Slot → State → State} (hf : ∀ i p, Blind (f i p)) :
    Blind (withSlot h f) := fun s d => by
  have hslot : slotOf (s.diagnosedAs d) h = slotOf s h := rfl
  unfold withSlot
  rw [hslot]
  split
  · rfl
  · exact hf _ _ s d

theorem append_blind (h : Handle) (v : Element) : Blind (append h v) :=
  withSlot_blind h fun _ _ _ _ => agree_ite (fun _ => rfl) fun _ => rfl

theorem setTimestamp_blind (h : Handle) (ts : Timestamp) : Blind (setTimestamp h ts) :=
  withSlot_blind h fun _ _ _ _ => rfl

theorem addReader_blind (h : Handle) : Blind (addReader h) := withSlot_blind h fun _ _ _ _ => rfl

theorem release_blind (h : Handle) : Blind (release h) :=
  withSlot_blind h fun _ _ _ _ => agree_ite (fun _ => rfl) fun _ => rfl

theorem allocate_blind (type : BufType) (capacity : Nat) : BlindCall (allocate type capacity) := fun s d => by
  have hfree : freeSlot (s.diagnosedAs d) = freeSlot s := rfl
  unfold allocate
  rw [hfree]
  split <;> exact ⟨rfl, rfl⟩

theorem emit_blind (body : Body) : Blind (emit body) := fun s d => by
  have hout : (s.diagnosedAs d).out = s.out := rfl
  unfold emit
  rw [hout]
  split
  · rfl
  · exact append_blind _ _ s d

/-! ### The downstream channel -/

theorem nextReply_blind (given : Handle) : BlindCall (nextReply given) := fun s d => by
  have hreplies : (s.diagnosedAs d).replies = s.replies := rfl
  unfold nextReply
  rw [hreplies]
  split <;> exact ⟨rfl, rfl⟩

theorem sinkAct_blind (given : Handle) (a : SinkAct) : Blind (sinkAct given a) := by
  cases a with
  | releaseGiven =>
    cases given with
    | none => exact blind_id
    | some i => exact release_blind (some i)
  | release h => exact release_blind h
  | addReader h => exact addReader_blind h
  | allocate type capacity => exact fun s d => (allocate_blind type capacity s d).2
  | append h v => exact append_blind h v
  | setTimestamp h ts => exact setTimestamp_blind h ts

theorem sinkActs_blind (given : Handle) (acts : List SinkAct) : Blind (sinkActs given acts) := by
  induction acts with
  | nil => exact blind_id
  | cons a rest ih => exact (sinkAct_blind given a).andThen ih

/-- The answer to a call is the environment's, and so is what the sink does inside it. -/
theorem reply_blind (given : Handle) : BlindCall fun s =>
    ((nextReply given s).1.success, sinkActs given (nextReply given s).1.acts (nextReply given s).2) := fun s d => by
  obtain ⟨hreply, hstate⟩ := nextReply_blind given s d
  dsimp only
  rw [hreply]
  exact ⟨rfl, (sinkActs_blind given _).agree hstate⟩

theorem sinkAccept_blind (k : Nat) (e : SinkEntry) (buf : Nat) : BlindCall (sinkAccept k e buf) := fun s d =>
  let p := (s.pool[buf]?).getD Slot.free
  reply_blind (some buf) { s with sinkCalls := s.sinkCalls ++ [.accept k e.sink buf p.ts p.data] } d

theorem sinkTerminate_blind (k : Nat) (e : SinkEntry) : BlindCall (sinkTerminate k e) := fun s d =>
  reply_blind none { s with sinkCalls := s.sinkCalls ++ [.terminate k e.sink] } d

theorem callSinks_blind {call : Nat → SinkEntry → State → Bool × State} (hcall : ∀ k e, BlindCall (call k e))
    (k : Nat) (sinks : List SinkEntry) (result : Bool) : BlindCall (callSinks call k sinks result) := by
  induction sinks generalizing k result with
  | nil => exact fun _ _ => ⟨rfl, rfl⟩
  | cons e rest ih =>
    intro s d
    have hfatal : (s.diagnosedAs d).fatal = s.fatal := rfl
    obtain ⟨hanswer, hstate⟩ := hcall k e s d
    unfold callSinks
    rw [hfatal]
    split
    · exact ⟨rfl, rfl⟩
    · dsimp only
      rw [hanswer]
      exact (ih (k + 1) _).agree hstate

theorem addReaders_blind (h : Handle) (n : Nat) : Blind (addReaders h n) := by
  induction n with
  | zero => exact blind_id
  | succ n ih => exact (addReader_blind h).andThen ih

theorem dispatch_blind (h : Handle) : BlindCall (dispatch h) := fun s d => by
  have hslot : slotOf (s.diagnosedAs d) h = slotOf s h := rfl
  have hsinks : (s.diagnosedAs d).sinks = s.sinks := rfl
  unfold dispatch
  rw [hslot, hsinks]
  split
  · exact ⟨rfl, rfl⟩
  · split
    · exact ⟨rfl, rfl⟩
    · exact (callSinks_blind (fun k e => sinkAccept_blind k e _) 0 _ true).agree (addReaders_blind h _ s d)

theorem shutdown_blind : BlindCall shutdown := fun s d => callSinks_blind sinkTerminate_blind 0 s.sinks true s d

/-! ### The decoder -/

theorem complete_blind : Blind complete := fun _ _ => rfl

theorem truncated_blind : Blind truncated := fun _ _ => rfl

theorem c0Single_blind (b : Byte) : Blind (c0Single b) := fun s d =>
  agree_ite (fun _ => emit_blind _ s d) fun _ => rfl

theorem p16Complete_blind : Blind p16Complete := fun s d => (emit_blind _ s d).andThen (raise_blind _)

theorem c0Byte_blind (b : Byte) : Blind (c0Byte b) := fun s d =>
  agree_ite
    (fun _ => Agree.andThen (agree_ite (fun _ => p16Complete_blind (collect b s) d) fun _ => rfl) complete_blind)
    fun _ => rfl

theorem ruleDefineWindow_blind : Blind ruleDefineWindow := fun s d =>
  (emit_blind _ s d).andThen (classify_blind _ _)

theorem c1Rule_blind : Blind c1Rule := fun s d => by
  refine agree_ite (fun _ => emit_blind _ s d) fun _ => ?_
  refine agree_ite (fun _ => emit_blind _ s d) fun _ => ?_
  refine agree_ite (fun _ => emit_blind _ s d) fun _ => ?_
  refine agree_ite (fun _ => emit_blind _ s d) fun _ => ?_
  refine agree_ite (fun _ => emit_blind _ s d) fun _ => ?_
  refine agree_ite (fun _ => emit_blind _ s d) fun _ => ?_
  refine agree_ite (fun _ => emit_blind _ s d) fun _ => ?_
  refine agree_ite (fun _ => rfl) fun _ => ?_
  refine agree_ite (fun _ => emit_blind _ s d) fun _ => ?_
  exact ruleDefineWindow_blind s d

theorem c1Complete_blind : Blind c1Complete := fun s d =>
  Agree.andThen (agree_ite (fun _ => rfl) fun _ => c1Rule_blind s d) complete_blind

theorem c1Entry_blind (b : Byte) : Blind (c1Entry b) := fun _ _ =>
  agree_ite (fun _ => c1Complete_blind.agree rfl) fun _ => rfl

theorem c1Byte_blind (b : Byte) : Blind (c1Byte b) := fun s d =>
  agree_ite (fun _ => c1Complete_blind (collect b s) d) fun _ => rfl

theorem c2Complete_blind : Blind c2Complete := fun s d =>
  ((emit_blind _ s d).andThen (raise_blind _)).andThen complete_blind

theorem c3Complete_blind : Blind c3Complete := fun s d =>
  ((emit_blind _ s d).andThen (raise_blind _)).andThen complete_blind

theorem extCodeByte_blind (e : Byte) : Blind (extCodeByte e) := fun s d => by
  refine agree_ite (fun _ => agree_ite (fun _ => c2Complete_blind.agree rfl) fun _ => rfl) fun _ => ?_
  refine agree_ite (fun _ => (emit_blind _ s d).andThen complete_blind) fun _ => ?_
  refine agree_ite (fun _ => rfl) fun _ => ?_
  exact agree_ite (fun _ => rfl) fun _ => (emit_blind _ s d).andThen complete_blind

theorem extSkipByte_blind : Blind extSkipByte := fun s d =>
  agree_ite
    (fun _ => agree_ite (fun _ => c2Complete_blind (countDown s) d) fun _ => c3Complete_blind (countDown s) d)
    fun _ => rfl

theorem dataWaitByte_blind (b : Byte) : Blind (dataWaitByte b) := fun s d => by
  refine agree_ite (fun _ => c0Single_blind b s d) fun _ => ?_
  refine agree_ite (fun _ => rfl) fun _ => ?_
  refine agree_ite (fun _ => rfl) fun _ => ?_
  refine agree_ite (fun _ => rfl) fun _ => ?_
  refine agree_ite (fun _ => emit_blind _ s d) fun _ => ?_
  exact agree_ite (fun _ => c1Entry_blind b s d) fun _ => emit_blind _ s d

theorem decodeByte_blind (b : Byte) : Blind (decodeByte b) := fun s d => by
  have hmode : (s.diagnosedAs d).mode = s.mode := rfl
  have hphase : (s.diagnosedAs d).extPhase = s.extPhase := rfl
  unfold decodeByte
  rw [hmode]
  split
  · exact dataWaitByte_blind b s d
  · exact c0Byte_blind b s d
  · exact c1Byte_blind b s d
  · unfold extByte
    rw [hphase]
    split
    · exact extCodeByte_blind b s d
    · exact extSkipByte_blind s d

theorem consume_blind (b : Byte) : Blind (consume b) := fun s d =>
  decodeByte_blind b { s with rd := cursor (s.rd.val + 1) } d

theorem decodeLoop_blind (fuel : Nat) : Blind (decodeLoop fuel) := by
  induction fuel with
  | zero => exact blind_id
  | succ fuel ih =>
    exact fun s d => agree_ite (fun _ => rfl) fun _ => agree_ite (fun _ => ih.agree (consume_blind _ s d)) fun _ => rfl

theorem endOfBytes_blind : Blind endOfBytes := fun _ _ => agree_ite (fun _ => rfl) fun _ => rfl

theorem decodeBlock_blind : Blind decodeBlock := fun s d => (decodeLoop_blind _ s d).andThen endOfBytes_blind

theorem feed_blind (bytes : List Byte) : Blind (feed bytes) := by
  induction bytes with
  | nil => exact blind_id
  | cons b rest ih => exact fun s d => agree_ite (fun _ => rfl) fun _ => ih.agree (consume_blind b s d)

theorem runCode_blind (bytes : List Byte) : Blind (runCode bytes) := fun s d =>
  Agree.andThen (feed_blind _ s d) fun t d => agree_ite (fun _ => rfl) fun _ => endOfBytes_blind t d

/-! ### The parser -/

/-- The pre-scan reads no style class. -/
theorem preCountBytes_styleClass (p : Params) (classes : List Style) (fuel : Nat) (bytes : List Byte) :
    preCountBytes { p with styleClass := classes } fuel bytes = preCountBytes p fuel bytes := by
  induction fuel generalizing bytes with
  | zero => rfl
  | succ fuel ih =>
    cases bytes with
    | nil => rfl
    | cons b rest =>
      unfold preCountBytes
      simp only [ih]
      rfl

theorem preCount_diagnosedAs (s : State) (d : Diagnosis) (lo hi : Nat) :
    preCount (s.diagnosedAs d) lo hi = preCount s lo hi :=
  preCountBytes_styleClass s.cfg d.styleClass _ _

theorem openBlock_blind : Blind openBlock := fun s d => by
  have hcount : preCount (s.diagnosedAs d) (s.diagnosedAs d).rd.val (s.diagnosedAs d).sbEnd.val =
      preCount s s.rd.val s.sbEnd.val := preCount_diagnosedAs s d _ _
  have hstamp : ∀ h : Handle,
      Blind fun t => t.andThen fun t => setTimestamp h t.curTs { t with out := h } := fun h =>
    blind_id.andThen fun t d => setTimestamp_blind h t.curTs { t with out := h } d
  unfold openBlock
  rw [hcount]
  exact agree_ite (fun _ => rfl) fun _ => ((allocate_blind .dtvccUnits _).bind _ hstamp).agree rfl

theorem countCheck_blind : Blind countCheck := fun s d => by
  have hunits : unitsEmitted (s.diagnosedAs d) = unitsEmitted s := rfl
  unfold countCheck
  rw [hunits]
  exact agree_ite (fun _ => rfl) fun _ => rfl

/-- The lines of `Deliver()` after its Dispatch (R200). -/
theorem noteResult_blind (r : Bool) : Blind fun t => t.andThen fun t =>
    (release t.out { t with ok := t.ok && r }).andThen fun u => { u with out := none } :=
  blind_id.andThen fun t d =>
    Agree.andThen (release_blind t.out { t with ok := t.ok && r } d) fun _ _ => rfl

theorem deliver_blind : Blind deliver := fun s d => (dispatch_blind s.out).bind _ noteResult_blind s d

theorem closeBlock_blind : Blind closeBlock := fun s d =>
  Agree.andThen
    (Agree.andThen (countCheck_blind s d) fun t d => agree_ite (fun _ => rfl) fun _ => deliver_blind t d)
    fun _ _ => rfl

theorem processBlock_blind : Blind processBlock := (openBlock_blind.andThen decodeBlock_blind).andThen closeBlock_blind

theorem takeBlock_blind (svc : BitVec 6) (size : BitVec 5) : Blind (takeBlock svc size) := fun s d => by
  have hplace : Blind fun t =>
      { t with
        sbSvc := svc, sbLen := size, sbEnd := cursor (t.rd.val + min size.toNat (s.pktLen.val - s.rd.val)) } :=
    fun _ _ => rfl
  exact processBlock_blind.agree (hplace.agree (agree_ite (fun _ => rfl) fun _ => rfl))

theorem abandonPacket_blind (size : BitVec 5) : Blind (abandonPacket size) := fun _ _ => rfl

theorem stopParse_blind : Blind stopParse := fun _ _ => rfl

theorem advance_blind (n : Nat) : Blind (advance n) := fun _ _ => rfl

theorem sbSvc0_blind (size : BitVec 5) : Blind (sbSvc0 size) := (abandonPacket_blind size).comp (advance_blind 1)

theorem sbStd_blind (svc : BitVec 3) (size : BitVec 5) : Blind (sbStd svc size) :=
  (takeBlock_blind _ size).comp (advance_blind 1)

theorem sbExt_blind (size : BitVec 5) (svc : BitVec 6) : Blind (sbExt size svc) := fun s d => by
  have hlogged : Agree (if svc.toNat < 7 then raise (.extSvcIllegal svc) (advance 2 s) else advance 2 s)
      (if svc.toNat < 7 then raise (.extSvcIllegal svc) (advance 2 (s.diagnosedAs d))
        else advance 2 (s.diagnosedAs d)) :=
    agree_ite (fun _ => rfl) fun _ => rfl
  exact agree_ite (fun _ => (abandonPacket_blind size).agree hlogged) fun _ => (takeBlock_blind svc size).agree hlogged

theorem parseStep_blind : Blind parseStep := fun s d => by
  refine agree_ite (fun _ => rfl) fun _ => ?_
  refine agree_ite (fun _ => rfl) fun _ => ?_
  refine agree_ite (fun _ => sbExt_blind _ _ s d) fun _ => ?_
  exact agree_ite (fun _ => sbSvc0_blind _ s d) fun _ => sbStd_blind _ _ s d

theorem parseLoop_blind (fuel : Nat) : Blind (parseLoop fuel) := by
  induction fuel with
  | zero => exact blind_id.andThen stopParse_blind
  | succ fuel ih =>
    exact fun s d => agree_ite (fun _ => rfl) fun _ => agree_ite (fun _ => ih.agree (parseStep_blind s d)) fun _ => rfl

theorem parseBlocks_blind : Blind parseBlocks := fun s d => parseLoop_blind _ (enterParse s) d

/-! ### The assembler -/

theorem zeroLength_blind : Blind zeroLength := fun _ _ => agree_ite (fun _ => rfl) fun _ => rfl

theorem packetHeader_blind (seq : BitVec 2) (code : BitVec 6) : Blind (packetHeader seq code) := by
  have hnumber : Blind fun t => { t with lastSeq := seq, lastSeqValid := true } := fun _ _ => rfl
  have hseq : Blind (seqCheck seq) := fun _ _ => hnumber.agree (agree_ite (fun _ => rfl) fun _ => rfl)
  have hlength : Blind (lengthCheck code) := fun _ _ => agree_ite (fun _ => rfl) fun _ => rfl
  exact hlength.comp (hseq.comp fun _ _ => rfl)

theorem endFlush_blind : Blind endFlush := fun _ _ => rfl

theorem flush_blind : Blind flush := fun s d =>
  agree_ite (fun _ => endFlush_blind.agree (zeroLength_blind s d)) fun _ =>
    Agree.andThen (parseBlocks_blind.agree (packetHeader_blind _ _ { s with phase := .header } d)) endFlush_blind

theorem appendPair_blind (b0 b1 : Byte) : Blind (appendPair b0 b1) := fun _ _ => rfl

theorem packetStart_blind (b0 b1 : Byte) : Blind (packetStart b0 b1) := flush_blind.andThen (appendPair_blind b0 b1)

theorem packetData_blind (b0 b1 : Byte) : Blind (packetData b0 b1) := fun _ _ =>
  agree_ite (fun _ => rfl) fun _ => rfl

theorem construct_blind (hdr b0 b1 : Byte) : Blind (construct hdr b0 b1) := fun s d => by
  refine agree_ite (fun _ => agree_ite (fun _ => packetStart_blind b0 b1 s d) fun _ => flush_blind s d) fun _ => ?_
  exact agree_ite (fun _ => agree_ite (fun _ => packetData_blind b0 b1 s d) fun _ => rfl) fun _ => rfl

/-! ### The upstream operations -/

theorem constructAt_blind (inbuf : Nat) : Blind (constructAt inbuf) := fun s d => construct_blind _ _ _ s d

theorem nextConstruct_blind : Blind nextConstruct := fun _ _ => rfl

theorem acceptLoop_blind (inbuf count : Nat) : Blind (acceptLoop inbuf count) := by
  induction count with
  | zero => exact blind_id
  | succ count ih => exact ((constructAt_blind inbuf).andThen nextConstruct_blind).andThen ih

theorem enterAccept_blind (inbuf : Handle) : Blind (enterAccept inbuf) := fun s d => by
  have hslot : slotOf (s.diagnosedAs d) inbuf = slotOf s inbuf := rfl
  refine agree_ite (fun _ => rfl) fun _ => ?_
  rw [hslot]
  split
  · rfl
  · exact agree_ite (fun _ => rfl) fun _ => rfl

theorem endAccept_blind (inbuf : Nat) : Blind (endAccept inbuf) := (release_blind _).andThen fun _ _ => rfl

theorem acceptBuffer_blind (inbuf : Handle) : Blind (acceptBuffer inbuf) :=
  (enterAccept_blind inbuf).andThen fun s d => by
    have hcall : (s.diagnosedAs d).inProgress = s.inProgress := rfl
    rw [hcall]
    split
    · exact Agree.andThen (acceptLoop_blind _ _ s d) (endAccept_blind _)
    · rfl

theorem enterTerminate_blind : Blind enterTerminate := fun _ _ => agree_ite (fun _ => rfl) fun _ => rfl

/-- The lines of `Terminate` after its Shutdown; the report is a record of the diagnostic stream (R172, R392). -/
theorem reportResult_blind (r : Bool) : Blind fun t => t.andThen fun t =>
    { report t with
      terminated := true, ret := some (.bool (t.ok && r)), phase := .host, inProgress := .none } :=
  blind_id.andThen fun _ _ => rfl

theorem endTerminate_blind : Blind endTerminate := shutdown_blind.bind _ reportResult_blind

theorem terminate_blind : Blind terminate := (enterTerminate_blind.andThen flush_blind).andThen endTerminate_blind

theorem registerSink_blind (sink : Nat) (consumes : BufType) : Blind (registerSink sink consumes) := fun _ _ =>
  agree_ite (fun _ => rfl) fun _ => agree_ite (fun _ => rfl) fun _ => rfl

theorem resetMachine_blind (pool : Bool) : Blind (resetMachine pool) := fun _ _ => rfl

/-! ### The instructions -/

theorem live_blind {f : State → State} (hf : Blind f) (s : State) (d : Diagnosis) :
    withoutDiagnosis (live f s) = withoutDiagnosis (live f (s.diagnosedAs d)) := by
  cases h : s.fatal with
  | true => rw [live_of_halted h, live_of_halted (s := s.diagnosedAs d) h]
  | false =>
    rw [live_of_live h, live_of_live (s := s.diagnosedAs d) h]
    exact congrArg Host.Outcome.next (hf s d)

theorem operation_blind {f : State → State} (hf : Blind f) (s : State) (d : Diagnosis) :
    withoutDiagnosis (operation f s) = withoutDiagnosis (operation f (s.diagnosedAs d)) :=
  live_blind (hf.comp fun _ _ => rfl) s d

theorem hostOperation_blind {f : State → State} (hf : Blind f) (s : State) (d : Diagnosis) :
    withoutDiagnosis (hostOperation f s) = withoutDiagnosis (hostOperation f (s.diagnosedAs d)) := by
  have hfatal : (s.diagnosedAs d).fatal = s.fatal := rfl
  have hphase : (s.diagnosedAs d).phase = s.phase := rfl
  unfold hostOperation
  rw [hfatal, hphase]
  split; · rfl
  split
  · exact operation_blind hf s d
  · rfl

/-- An operation that returns the result of a call. -/
theorem noteReturn_blind (r : Option RetVal) : Blind fun t => { t with ret := r } := fun _ _ => rfl

/-- Settles O57: every operation is blind to the diagnosis, since only events, the report and the classifier touch it,
and what they read of it they write there (`raise_blind`, `classify_agree`). -/
theorem classifierNeverAltersOutput : Obligations.ClassifierNeverAltersOutput := by
  intro i s s' h
  rw [Agree.eq_diagnosedAs h]
  generalize s'.diagnosis = d
  cases i with
  | ps b0 b1 => exact live_blind (packetStart_blind b0 b1) s d
  | psInvalid | flush => exact live_blind flush_blind s d
  | pd b0 b1 => exact live_blind (packetData_blind b0 b1) s d
  | pdInvalid | f1 | f2 => exact live_blind blind_id s d
  | pktHdr seq code => exact live_blind (packetHeader_blind seq code) s d
  | sbNull => exact live_blind stopParse_blind s d
  | sbSvc0 size => exact live_blind (sbSvc0_blind size) s d
  | sbStd svc size => exact live_blind (sbStd_blind svc size) s d
  | sbExt size svc => exact live_blind (sbExt_blind size svc) s d
  | parseBlocks => exact live_blind parseBlocks_blind s d
  | processBlock => exact live_blind processBlock_blind s d
  | allocate type capacity =>
    exact operation_blind ((allocate_blind type capacity).bind _ fun h => noteReturn_blind (h.map .handle)) s d
  | append h v => exact operation_blind (append_blind h v) s d
  | setTimestamp h ts => exact operation_blind (setTimestamp_blind h ts) s d
  | addReader h => exact operation_blind (addReader_blind h) s d
  | release h => exact operation_blind (release_blind h) s d
  | dispatch h =>
    exact operation_blind
      ((dispatch_blind h).bind _ fun r => blind_id.andThen (noteReturn_blind (some (.bool r)))) s d
  | shutdown =>
    exact operation_blind
      (shutdown_blind.bind _ fun r => blind_id.andThen (noteReturn_blind (some (.bool r)))) s d
  | registerSink sink consumes => exact hostOperation_blind (registerSink_blind sink consumes) s d
  | accept inbuf => exact hostOperation_blind (acceptBuffer_blind inbuf) s d
  | terminate => exact hostOperation_blind terminate_blind s d
  | reset pool => exact congrArg Host.Outcome.next (resetMachine_blind pool s d)
  | _ =>
    rw [exec_of_level_code defaultTags rfl, exec_of_level_code defaultTags rfl]
    exact live_blind (runCode_blind _) s d

end Sys2Proof.Machine
end

section
/-! Raising an event: the counter, the occurrences, the record and its `verbose` bit (60_exceptions.md R351 to R353,
10_state.md R32). -/

namespace Sys2Proof.Machine

-- One proof at a time: in parallel they need more threads than the memory limit allows.
set_option Elab.async false

variable {s : State} {e : Event} {k n limit : Nat}

/-! ### The counter and the occurrences of a code -/

theorem Event.code_bounds (e : Event) : 1 ≤ e.code ∧ e.code ≤ 17 := by cases e <;> simp [Event.code]

theorem Event.code_eq_one_iff : e.code = 1 ↔ e = .zeroLenPkt := by cases e <;> simp [Event.code]

/-- The counter of an event is an entry of the register file. -/
theorem counterOf_code (e : Event) (s : State) : counterOf s e.code = s.cnt[e.code - 1]'e.code_pred_lt := by
  simp [counterOf, Vector.getElem?_eq_getElem e.code_pred_lt]

theorem occurrencesOf_code (e : Event) (s : State) :
    occurrencesOf s e.code = s.occurred[e.code - 1]'e.code_pred_lt := by
  simp [occurrencesOf, Vector.getElem?_eq_getElem e.code_pred_lt]

theorem counterOf_raise (e : Event) (s : State) : counterOf (raise e s) e.code = bump s.cfg (counterOf s e.code) := by
  rw [counterOf_code, counterOf_code]
  exact (raise_cnt_get e s ⟨_, e.code_pred_lt⟩).trans (if_pos rfl)

theorem occurrencesOf_raise (e : Event) (s : State) :
    occurrencesOf (raise e s) e.code = occurrencesOf s e.code + 1 := by
  rw [occurrencesOf_code, occurrencesOf_code]
  exact (raise_occurred_get e s ⟨_, e.code_pred_lt⟩).trans (if_pos rfl)

/-- No other code is counted. -/
theorem raise_counts_of_ne (hk : 1 ≤ k) (hne : k ≠ e.code) :
    counterOf (raise e s) k = counterOf s k ∧ occurrencesOf (raise e s) k = occurrencesOf s k := by
  have hindex : e.code - 1 ≠ k - 1 := by
    have := e.code_bounds
    omega
  simp only [counterOf, occurrencesOf, raise_cnt, raise_occurred, Vector.getElem?_setIfInBounds_ne hindex, and_self]

/-- The counter is the number of occurrences, saturated (R32). -/
theorem State.Sound.counterOf_eq_min (h : s.Sound) (e : Event) :
    counterOf s e.code = min (occurrencesOf s e.code) (counterMax s.cfg) := by
  rw [counterOf_code, occurrencesOf_code]
  exact h.occurrences ⟨_, e.code_pred_lt⟩

/-! ### The `verbose` bit -/

theorem verboseBit_of_limit (hlimit : eventLimit s.cfg e = some limit) (hne : e.code ≠ 1) :
    verboseBit s e n = decide (n ≤ limit) := by
  unfold verboseBit
  split
  · exact absurd rfl hne
  · rw [hlimit]

/-- "a saturated counter is above every limit" (R351, log 22); the zero-length event does not test its counter. -/
theorem limit_lt_counterMax {cfg : Params} (hadm : cfg.admissible = true) (hlimit : eventLimit cfg e = some limit)
    (hne : e.code ≠ 1) : limit < counterMax cfg := by
  simp only [Params.admissible, Bool.and_eq_true, decide_eq_true_eq] at hadm
  obtain ⟨⟨-, hlenMismatch⟩, hp16⟩ := hadm
  cases e with
  | zeroLenPkt => exact absurd rfl hne
  | pktLenMismatch declared actual =>
    cases hlimit
    exact hlenMismatch
  | p16 b1 b2 =>
    cases hlimit
    exact hp16
  | _ => cases hlimit

/-- A counter tells the occurrences within a limit from those beyond, though it saturates. -/
theorem min_le_limit_iff {m : Nat} (h : limit < m) : min n m ≤ limit ↔ n ≤ limit := by omega

theorem State.Sound.zeroLenLogged_eq (h : s.Sound) : s.zeroLenLogged = decide (1 ≤ occurrencesOf s 1) := by
  rw [h.zeroLen]
  rfl

/-- Of a limited event the first `limit` occurrences since reset are verbose and no later one (R351, R169, R239). -/
theorem State.Sound.verboseBit_raise (h : s.Sound) (hlimit : eventLimit s.cfg e = some limit) :
    verboseBit s e (bump s.cfg (counterOf s e.code)) = decide (occurrencesOf s e.code + 1 ≤ limit) := by
  by_cases hzero : e.code = 1
  · obtain rfl := Event.code_eq_one_iff.1 hzero
    cases hlimit
    have hbit : verboseBit s .zeroLenPkt (bump s.cfg (counterOf s 1)) = !s.zeroLenLogged := rfl
    rw [hzero, hbit, h.zeroLenLogged_eq, ← decide_not]
    exact decide_eq_decide.2 (by omega)
  · rw [verboseBit_of_limit hlimit hzero, h.counterOf_eq_min, bump_min]
    exact decide_eq_decide.2 (min_le_limit_iff (limit_lt_counterMax h.params hlimit hzero))

/-! ### The same event again and again -/

theorem raise_iterate_cfg (e : Event) (n : Nat) (s : State) : ((raise e)^[n] s).cfg = s.cfg := by
  induction n with
  | zero => rfl
  | succ n ih => rw [Function.iterate_succ_apply', raise_cfg, ih]

theorem counterOf_raise_iterate (hzero : counterOf s e.code = 0) (n : Nat) :
    counterOf ((raise e)^[n] s) e.code = min n (counterMax s.cfg) := by
  induction n with
  | zero => rw [Function.iterate_zero_apply, hzero, Nat.zero_min]
  | succ n ih => rw [Function.iterate_succ_apply', counterOf_raise, raise_iterate_cfg, ih, bump_min]

/-- Settles O15: the register files by entry, the `verbose` bit by the limit of the event, and the occurrences through
the saturated counter (`State.Sound.verboseBit_raise`, `counterOf_raise_iterate`). -/
theorem eventMechanism : Obligations.EventMechanism := by
  refine ⟨fun e s => ?raised, fun cfg e => ?limits, fun e s limit hinv hlimit => ?bounded,
    fun e s n limit hlimit hne hzero hmax => ?again⟩
  case raised =>
    obtain ⟨hlo, hhi⟩ := e.code_bounds
    refine ⟨hlo, hhi, counterOf_raise e s, occurrencesOf_raise e s, fun k => raise_counts_of_ne, ?record, rfl⟩
    case record => cases e <;> rfl
  case limits => cases e <;> rfl
  case bounded => rw [raise_diag, hinv.sound.verboseBit_raise hlimit]
  case again =>
    rw [Function.iterate_succ_apply', raise_diag, List.getLast?_concat,
      verboseBit_of_limit (by rwa [raise_iterate_cfg]) hne, raise_iterate_cfg, counterOf_raise_iterate hzero, bump_min]
    exact congrArg (fun v => some (DiagRecord.event v e)) (decide_eq_decide.2 (min_le_limit_iff hmax))

end Sys2Proof.Machine
end

section
/-! The classifier's register file: the entry of one service and the entries of the others (47_style_classifier.md
R342, 10_state.md R31). -/

namespace Sys2Proof.Machine

-- One proof at a time: in parallel they need more threads than the memory limit allows.
set_option Elab.async false

variable {s : State} {svc other : BitVec 6} {ws : BitVec 3} {c : Style}

/-! ### The register file -/

theorem svcIndex_lt (svc : BitVec 6) : svcIndex svc < 63 := by
  unfold svcIndex
  have := svc.isLt
  omega

/-- Each service has its own entry (R31). -/
theorem svcIndex_ne (hsvc : svc ≠ 0) (hother : other ≠ 0) (hne : other ≠ svc) : svcIndex svc ≠ svcIndex other := by
  unfold svcIndex
  bv_omega

theorem styleOf_setStyle (svc : BitVec 6) (c : Style) (s : State) : styleOf (setStyle svc c s) svc = c := by
  simp [styleOf, setStyle, svcIndex_lt]

theorem styleOf_setStyle_of_ne (h : svcIndex svc ≠ svcIndex other) :
    styleOf (setStyle svc c s) other = styleOf s other := by
  simp only [styleOf, setStyle, Vector.getElem?_setIfInBounds_ne h]

theorem ambiguousOf_setAmbiguous (svc : BitVec 6) (s : State) : ambiguousOf (setAmbiguous svc s) svc = true := by
  simp [ambiguousOf, setAmbiguous, svcIndex_lt]

theorem ambiguousOf_setAmbiguous_of_ne (h : svcIndex svc ≠ svcIndex other) :
    ambiguousOf (setAmbiguous svc s) other = ambiguousOf s other := by
  simp only [ambiguousOf, setAmbiguous, Vector.getElem?_setIfInBounds_ne h]

/-! ### The cases of the rule -/

theorem classify_of_kept (h : styleClassOf s.cfg.styleClass ws = .unset ∨
    styleClassOf s.cfg.styleClass ws = styleOf s svc) : classify svc ws s = s := by
  unfold classify
  dsimp only
  split; · rfl
  next hc =>
    obtain ⟨-, hc⟩ := not_or.1 hc
    have hsame := h.resolve_left hc
    rw [if_neg (hsame ▸ hc), if_neg (not_not.2 hsame.symm)]

theorem classify_of_first (hsvc : svc ≠ 0) (hc : styleClassOf s.cfg.styleClass ws ≠ .unset)
    (hold : styleOf s svc = .unset) :
    classify svc ws s = setStyle svc (styleClassOf s.cfg.styleClass ws) s := by
  unfold classify
  dsimp only
  rw [if_neg (not_or.2 ⟨hsvc, hc⟩), if_pos hold]

theorem classify_of_transition (hsvc : svc ≠ 0) (hc : styleClassOf s.cfg.styleClass ws ≠ .unset)
    (hold : styleOf s svc ≠ .unset) (hne : styleOf s svc ≠ styleClassOf s.cfg.styleClass ws) :
    classify svc ws s =
      setStyle svc (styleClassOf s.cfg.styleClass ws)
        (raise (.styleTransition svc (styleOf s svc) (styleClassOf s.cfg.styleClass ws)) (setAmbiguous svc s)) := by
  unfold classify
  dsimp only
  rw [if_neg (not_or.2 ⟨hsvc, hc⟩), if_neg hold, if_pos hne]

/-- Whatever it does, it does to the entry of its own service (R342). -/
theorem classify_of_ne (ws : BitVec 3) (s : State) (h : svcIndex svc ≠ svcIndex other) :
    styleOf (classify svc ws s) other = styleOf s other ∧
      ambiguousOf (classify svc ws s) other = ambiguousOf s other := by
  unfold classify
  dsimp only
  split; · exact ⟨rfl, rfl⟩
  split; · exact ⟨styleOf_setStyle_of_ne h, rfl⟩
  split
  · exact ⟨styleOf_setStyle_of_ne h, ambiguousOf_setAmbiguous_of_ne h⟩
  · exact ⟨rfl, rfl⟩

/-- Settles O39, case by case of the rule. -/
theorem classifierTransitions : Obligations.ClassifierTransitions := by
  intro s svc ws hsvc
  refine ⟨classify_of_kept, fun hc hold => ?first, fun hc hold hne => ?transition,
    fun other hother hne => classify_of_ne ws s (svcIndex_ne hsvc hother hne)⟩
  case first =>
    rw [classify_of_first hsvc hc hold]
    exact ⟨styleOf_setStyle .., rfl⟩
  case transition =>
    rw [classify_of_transition hsvc hc hold hne]
    exact ⟨styleOf_setStyle .., ambiguousOf_setAmbiguous svc s, rfl⟩

end Sys2Proof.Machine
end

section
/-! The statements of 70_reset_and_hazards.md: the state after Reset, and the one code that begins a string of bytes. -/

namespace Sys2Proof.Machine

-- One proof at a time: in parallel they need more threads than the memory limit allows.
set_option Elab.async false

/-- The pool after a Reset: as long as it was; freed where the pool line is executed, untouched where not (R401). -/
theorem resetMachine_pool (pool : Bool) (s : State) :
    (resetMachine pool s).pool.length = s.pool.length ∧
      (pool = true → ∀ p ∈ (resetMachine pool s).pool, p.inUse = false) ∧
      (pool = false → (resetMachine pool s).pool = s.pool) := by
  cases pool with
  | false => exact ⟨rfl, nofun, fun _ => rfl⟩
  | true =>
    refine ⟨List.length_map _, fun _ p hp => ?_, nofun⟩
    obtain ⟨q, -, rfl⟩ := List.mem_map.1 hp
    rfl

/-- Settles O8: each line of R400 is an assignment; the register files are copies of one value, and the pool is
`resetMachine_pool`. -/
theorem resetClearsState : Obligations.ResetClearsState := by
  intro pool s
  refine ⟨resetMachine pool s, rfl, rfl, rfl, rfl, rfl, rfl, rfl, rfl, rfl, rfl, rfl, ?style, ?ambiguous, ?cnt,
    ?occurred, rfl, rfl, rfl, rfl, resetMachine_pool pool s⟩
  case style | ambiguous | cnt | occurred => exact fun k => Vector.getElem_replicate k.isLt

/-- Settles O2: a code can be read (`decodeCode_reads`) of the length that its row has (`length_encode`), and no other
code begins the same bytes (`eq_of_encode_prefix`). -/
theorem everyByteStringHasOneCode : Obligations.EveryByteStringHasOneCode := by
  intro p bytes hc hlen
  obtain ⟨i, rest, hdecode, hwf, hlevel, hbytes⟩ := decodeCode_reads p.tags hc hlen
  refine ⟨i, rest, hdecode, hwf, hlevel, hbytes, length_encode i p.tags, fun j rest' hwf' hlevel' hbytes' => ?_⟩
  obtain rfl : j = i := eq_of_encode_prefix hwf' hlevel' hwf hlevel ⟨rest', hbytes'⟩ ⟨rest, hbytes⟩
  exact ⟨rfl, List.append_cancel_left (hbytes'.trans hbytes.symm)⟩

end Sys2Proof.Machine
end
